-- ==== Sys2Proof/Word.lean ====
section
/-! DEFINITION. The value domains of spec/00_scope.md section 5: bytes and words, each known or X, texts, logic levels,
and the sets of names the rules use (phases, modes, classes, event kinds). -/

namespace Sys2Proof

/-- `Byte` = 0..255. Data bus, IR, OP1, OP2 and accumulator lanes are 8 bits wide (R5). -/
abbrev Byte := BitVec 8

/-- `Word` = 0..65535. PC is 16 bits wide (R5, R21). -/
abbrev Word := BitVec 16

/-- `ByteX` = `Byte` or the explicit unknown value X, written `none` (R6). -/
abbrev ByteX := Option Byte

/-- `WordX` = `Word` or X, written `none` (R6). -/
abbrev WordX := Option Word

/-- A text, as its characters in order. -/
abbrev Text := List Char

/-- The level an input line reports: data lines are three-level (R60). -/
inductive Level where
  | zero
  | one
  | indeterminate
deriving DecidableEq, Repr

/-- The five cycle phases (R27 a, R34), in the document's order. -/
inductive Phase where
  | fetch
  | operand1
  | operand2
  | memoryRead
  | memoryWrite
deriving DecidableEq, Repr

/-- The sixteen addressing modes (R65), in the order of their numbers 0 to 15. -/
inductive Mode where
  | imp
  | acc
  | rel
  | imm
  | zp
  | zpx
  | zpy
  | izx
  | izy
  | izp
  | abs
  | abx
  | aby
  | ind
  | iax
  | zpr
deriving DecidableEq, Repr

/-- The control-flow class a descriptor carries (R70, R71). -/
inductive Class where
  | seq
  | branch
  | jsr
  | jmpabs
  | jmpind
  | rts
  | rti
  | brk
deriving DecidableEq, Repr

/-- The class that drives one retire: a table class, or one of the two run-time classes that no table row carries (R113). -/
inductive RunClass where
  | table (c : Class)
  | int
  | unknown
deriving DecidableEq, Repr

/-- The kind of an instruction event (R183): a decoded instruction or a reclassified interrupt. -/
inductive Kind where
  | insn
  | int
deriving DecidableEq, Repr

/-- All sixteen modes, in order of number. -/
def Mode.all : List Mode :=
  [.imp, .acc, .rel, .imm, .zp, .zpx, .zpy, .izx, .izy, .izp, .abs, .abx, .aby, .ind, .iax, .zpr]

end Sys2Proof
end

