-- ==== Sys2Proof/Config.lean ====
section
/-! DEFINITION. The parameters of the model (spec/00_scope.md R5): the shape of OPTABLE and MODETABLE entries, the
texts, EMU_ENABLE and PC_RESET. Parameters are not state (R31). The values of the default tables stand in
Machine/Tables.lean. -/

namespace Sys2Proof

/-- One piece of a text template (R66): a hole to fill, or a character copied as it stands. -/
inductive Piece where
  | mn
  | o1
  | o2
  | tgt
  | lit (c : Char)
deriving DecidableEq, Repr

/-- An entry of MODETABLE: instruction length in bytes, opcode included, and the text template (R42, R66). -/
structure ModeRow where
  length : Nat
  template : List Piece
deriving DecidableEq, Repr

/-- A descriptor, one per opcode value (R70), with the derived control-flow class (R71). -/
structure Descriptor where
  mnemonic : Text
  mode : Mode
  earlyWrite : Bool
  xfer : Option Text
  cls : Class
deriving DecidableEq, Repr

/-- The parameters of IDSM (R5): the two tables, which are total functions, the literal texts that a model comparing
with a reference keeps as parameters (92_eei_decisions.md), and whether an emulator is attached. -/
structure Params where
  optable : Byte → Descriptor
  modetable : Mode → ModeRow
  intMarker : Text
  phByte : Text
  phWord : Text
  unkMnemonic : Text
  emuEnable : Bool

/-- PC_RESET of the machine `State.reset` (R5, R29): the open parameter, here X, "the honest value when it is not
known" (92_eei_decisions.md D8). DESIGN CHOICE, log 2; `State.resetWith` takes any value. -/
def Config.pcReset : WordX := none

end Sys2Proof
end

