-- ==== Sys2Proof/Machine/Tables.lean ====
section
/-! DEFINITION. The tables of spec/30_encoding.md: MODETABLE (R66), the default instance of OPTABLE (R73 to R76),
the default parameters, and the numbers of modes, phases (R34, R65). Every cell of OPTABLE but 0x00 and 0xA9 is general
knowledge that the spec supplies (log 3), and so are eleven of the lengths (log 4). -/

namespace Sys2Proof.Machine

open Sys2Proof

/-- A text written as the characters of a string. -/
def txt (s : String) : Text := s.toList

/-- The number of a mode, 0 to 15 (R65). -/
def modeNumber : Mode → Nat
  | .imp => 0 | .acc => 1 | .rel => 2 | .imm => 3
  | .zp => 4 | .zpx => 5 | .zpy => 6 | .izx => 7
  | .izy => 8 | .izp => 9 | .abs => 10 | .abx => 11
  | .aby => 12 | .ind => 13 | .iax => 14 | .zpr => 15

/-- The number of a phase, 0 to 4, in a 3-bit field (R34). -/
def phaseNumber : Phase → BitVec 3
  | .fetch => 0
  | .operand1 => 1
  | .operand2 => 2
  | .memoryRead => 3
  | .memoryWrite => 4

/-- MODETABLE (R66): length and template of each of the sixteen modes. -/
def modetable : Mode → ModeRow
  | .imp => ⟨1, [.mn]⟩
  | .acc => ⟨1, [.mn, .lit ' ', .lit 'A']⟩
  | .rel => ⟨2, [.mn, .lit ' ', .tgt]⟩
  | .imm => ⟨2, [.mn, .lit ' ', .lit '#', .o1]⟩
  | .zp => ⟨2, [.mn, .lit ' ', .o1]⟩
  | .zpx => ⟨2, [.mn, .lit ' ', .o1, .lit ',', .lit 'X']⟩
  | .zpy => ⟨2, [.mn, .lit ' ', .o1, .lit ',', .lit 'Y']⟩
  | .izx => ⟨2, [.mn, .lit ' ', .lit '(', .o1, .lit ',', .lit 'X', .lit ')']⟩
  | .izy => ⟨2, [.mn, .lit ' ', .lit '(', .o1, .lit ')', .lit ',', .lit 'Y']⟩
  | .izp => ⟨2, [.mn, .lit ' ', .lit '(', .o1, .lit ')']⟩
  | .abs => ⟨3, [.mn, .lit ' ', .o2, .o1]⟩
  | .abx => ⟨3, [.mn, .lit ' ', .o2, .o1, .lit ',', .lit 'X']⟩
  | .aby => ⟨3, [.mn, .lit ' ', .o2, .o1, .lit ',', .lit 'Y']⟩
  | .ind => ⟨3, [.mn, .lit ' ', .lit '(', .o2, .o1, .lit ')']⟩
  | .iax => ⟨3, [.mn, .lit ' ', .lit '(', .o2, .o1, .lit ',', .lit 'X', .lit ')']⟩
  | .zpr => ⟨3, [.mn, .lit ' ', .o1, .lit ',', .tgt]⟩

/-- A descriptor of class SEQ with no early write; the default table's `xfer` column is `none` in every row (R201). -/
def seqCell (mn : String) (m : Mode) : Descriptor := ⟨txt mn, m, false, none, .seq⟩

/-- A push: class SEQ with the early-write flag (R75). -/
def pushCell (mn : String) : Descriptor := ⟨txt mn, .imp, true, none, .seq⟩

/-- A descriptor of a control-flow class (R74). -/
def flowCell (mn : String) (m : Mode) (c : Class) : Descriptor := ⟨txt mn, m, false, none, c⟩

/-- A relative branch (R74). -/
def branchCell (mn : String) : Descriptor := flowCell mn .rel .branch

/-- The subroutine call: early-write flag 1 (R75, R150). -/
def callCell (mn : String) : Descriptor := ⟨txt mn, .abs, true, none, .jsr⟩

/-- A reserved opcode, shown as NOP (R76, R143). -/
def reservedCell (m : Mode) : Descriptor := seqCell "NOP" m

/-- Row 0x of R73. -/
def optableRow0 : List Descriptor :=
  [flowCell "BRK" .imp .brk, seqCell "ORA" .izx, reservedCell .imm, reservedCell .imp,
   seqCell "TSB" .zp, seqCell "ORA" .zp, seqCell "ASL" .zp, seqCell "RMB0" .zp,
   pushCell "PHP", seqCell "ORA" .imm, seqCell "ASL" .acc, reservedCell .imp,
   seqCell "TSB" .abs, seqCell "ORA" .abs, seqCell "ASL" .abs, seqCell "BBR0" .zpr]

/-- Row 1x of R73. -/
def optableRow1 : List Descriptor :=
  [branchCell "BPL", seqCell "ORA" .izy, seqCell "ORA" .izp, reservedCell .imp,
   seqCell "TRB" .zp, seqCell "ORA" .zpx, seqCell "ASL" .zpx, seqCell "RMB1" .zp,
   seqCell "CLC" .imp, seqCell "ORA" .aby, seqCell "INC" .acc, reservedCell .imp,
   seqCell "TRB" .abs, seqCell "ORA" .abx, seqCell "ASL" .abx, seqCell "BBR1" .zpr]

/-- Row 2x of R73. -/
def optableRow2 : List Descriptor :=
  [callCell "JSR", seqCell "AND" .izx, reservedCell .imm, reservedCell .imp,
   seqCell "BIT" .zp, seqCell "AND" .zp, seqCell "ROL" .zp, seqCell "RMB2" .zp,
   seqCell "PLP" .imp, seqCell "AND" .imm, seqCell "ROL" .acc, reservedCell .imp,
   seqCell "BIT" .abs, seqCell "AND" .abs, seqCell "ROL" .abs, seqCell "BBR2" .zpr]

/-- Row 3x of R73. -/
def optableRow3 : List Descriptor :=
  [branchCell "BMI", seqCell "AND" .izy, seqCell "AND" .izp, reservedCell .imp,
   seqCell "BIT" .zpx, seqCell "AND" .zpx, seqCell "ROL" .zpx, seqCell "RMB3" .zp,
   seqCell "SEC" .imp, seqCell "AND" .aby, seqCell "DEC" .acc, reservedCell .imp,
   seqCell "BIT" .abx, seqCell "AND" .abx, seqCell "ROL" .abx, seqCell "BBR3" .zpr]

/-- Row 4x of R73. -/
def optableRow4 : List Descriptor :=
  [flowCell "RTI" .imp .rti, seqCell "EOR" .izx, reservedCell .imm, reservedCell .imp,
   reservedCell .zp, seqCell "EOR" .zp, seqCell "LSR" .zp, seqCell "RMB4" .zp,
   pushCell "PHA", seqCell "EOR" .imm, seqCell "LSR" .acc, reservedCell .imp,
   flowCell "JMP" .abs .jmpabs, seqCell "EOR" .abs, seqCell "LSR" .abs, seqCell "BBR4" .zpr]

/-- Row 5x of R73. -/
def optableRow5 : List Descriptor :=
  [branchCell "BVC", seqCell "EOR" .izy, seqCell "EOR" .izp, reservedCell .imp,
   reservedCell .zpx, seqCell "EOR" .zpx, seqCell "LSR" .zpx, seqCell "RMB5" .zp,
   seqCell "CLI" .imp, seqCell "EOR" .aby, pushCell "PHY", reservedCell .imp,
   reservedCell .abs, seqCell "EOR" .abx, seqCell "LSR" .abx, seqCell "BBR5" .zpr]

/-- Row 6x of R73. -/
def optableRow6 : List Descriptor :=
  [flowCell "RTS" .imp .rts, seqCell "ADC" .izx, reservedCell .imm, reservedCell .imp,
   seqCell "STZ" .zp, seqCell "ADC" .zp, seqCell "ROR" .zp, seqCell "RMB6" .zp,
   seqCell "PLA" .imp, seqCell "ADC" .imm, seqCell "ROR" .acc, reservedCell .imp,
   flowCell "JMP" .ind .jmpind, seqCell "ADC" .abs, seqCell "ROR" .abs, seqCell "BBR6" .zpr]

/-- Row 7x of R73. -/
def optableRow7 : List Descriptor :=
  [branchCell "BVS", seqCell "ADC" .izy, seqCell "ADC" .izp, reservedCell .imp,
   seqCell "STZ" .zpx, seqCell "ADC" .zpx, seqCell "ROR" .zpx, seqCell "RMB7" .zp,
   seqCell "SEI" .imp, seqCell "ADC" .aby, seqCell "PLY" .imp, reservedCell .imp,
   flowCell "JMP" .iax .jmpind, seqCell "ADC" .abx, seqCell "ROR" .abx, seqCell "BBR7" .zpr]

/-- Row 8x of R73. -/
def optableRow8 : List Descriptor :=
  [branchCell "BRA", seqCell "STA" .izx, reservedCell .imm, reservedCell .imp,
   seqCell "STY" .zp, seqCell "STA" .zp, seqCell "STX" .zp, seqCell "SMB0" .zp,
   seqCell "DEY" .imp, seqCell "BIT" .imm, seqCell "TXA" .imp, reservedCell .imp,
   seqCell "STY" .abs, seqCell "STA" .abs, seqCell "STX" .abs, seqCell "BBS0" .zpr]

/-- Row 9x of R73. -/
def optableRow9 : List Descriptor :=
  [branchCell "BCC", seqCell "STA" .izy, seqCell "STA" .izp, reservedCell .imp,
   seqCell "STY" .zpx, seqCell "STA" .zpx, seqCell "STX" .zpy, seqCell "SMB1" .zp,
   seqCell "TYA" .imp, seqCell "STA" .aby, seqCell "TXS" .imp, reservedCell .imp,
   seqCell "STZ" .abs, seqCell "STA" .abx, seqCell "STZ" .abx, seqCell "BBS1" .zpr]

/-- Row Ax of R73. -/
def optableRowA : List Descriptor :=
  [seqCell "LDY" .imm, seqCell "LDA" .izx, seqCell "LDX" .imm, reservedCell .imp,
   seqCell "LDY" .zp, seqCell "LDA" .zp, seqCell "LDX" .zp, seqCell "SMB2" .zp,
   seqCell "TAY" .imp, seqCell "LDA" .imm, seqCell "TAX" .imp, reservedCell .imp,
   seqCell "LDY" .abs, seqCell "LDA" .abs, seqCell "LDX" .abs, seqCell "BBS2" .zpr]

/-- Row Bx of R73. -/
def optableRowB : List Descriptor :=
  [branchCell "BCS", seqCell "LDA" .izy, seqCell "LDA" .izp, reservedCell .imp,
   seqCell "LDY" .zpx, seqCell "LDA" .zpx, seqCell "LDX" .zpy, seqCell "SMB3" .zp,
   seqCell "CLV" .imp, seqCell "LDA" .aby, seqCell "TSX" .imp, reservedCell .imp,
   seqCell "LDY" .abx, seqCell "LDA" .abx, seqCell "LDX" .aby, seqCell "BBS3" .zpr]

/-- Row Cx of R73. -/
def optableRowC : List Descriptor :=
  [seqCell "CPY" .imm, seqCell "CMP" .izx, reservedCell .imm, reservedCell .imp,
   seqCell "CPY" .zp, seqCell "CMP" .zp, seqCell "DEC" .zp, seqCell "SMB4" .zp,
   seqCell "INY" .imp, seqCell "CMP" .imm, seqCell "DEX" .imp, seqCell "WAI" .imp,
   seqCell "CPY" .abs, seqCell "CMP" .abs, seqCell "DEC" .abs, seqCell "BBS4" .zpr]

/-- Row Dx of R73. -/
def optableRowD : List Descriptor :=
  [branchCell "BNE", seqCell "CMP" .izy, seqCell "CMP" .izp, reservedCell .imp,
   reservedCell .zpx, seqCell "CMP" .zpx, seqCell "DEC" .zpx, seqCell "SMB5" .zp,
   seqCell "CLD" .imp, seqCell "CMP" .aby, pushCell "PHX", seqCell "STP" .imp,
   reservedCell .abs, seqCell "CMP" .abx, seqCell "DEC" .abx, seqCell "BBS5" .zpr]

/-- Row Ex of R73. -/
def optableRowE : List Descriptor :=
  [seqCell "CPX" .imm, seqCell "SBC" .izx, reservedCell .imm, reservedCell .imp,
   seqCell "CPX" .zp, seqCell "SBC" .zp, seqCell "INC" .zp, seqCell "SMB6" .zp,
   seqCell "INX" .imp, seqCell "SBC" .imm, seqCell "NOP" .imp, reservedCell .imp,
   seqCell "CPX" .abs, seqCell "SBC" .abs, seqCell "INC" .abs, seqCell "BBS6" .zpr]

/-- Row Fx of R73. -/
def optableRowF : List Descriptor :=
  [branchCell "BEQ", seqCell "SBC" .izy, seqCell "SBC" .izp, reservedCell .imp,
   reservedCell .zpx, seqCell "SBC" .zpx, seqCell "INC" .zpx, seqCell "SMB7" .zp,
   seqCell "SED" .imp, seqCell "SBC" .aby, seqCell "PLX" .imp, reservedCell .imp,
   reservedCell .abs, seqCell "SBC" .abx, seqCell "INC" .abx, seqCell "BBS7" .zpr]

/-- The grid of R73: sixteen rows of sixteen cells. -/
def optableGrid : List (List Descriptor) :=
  [optableRow0, optableRow1, optableRow2, optableRow3, optableRow4, optableRow5, optableRow6, optableRow7,
   optableRow8, optableRow9, optableRowA, optableRowB, optableRowC, optableRowD, optableRowE, optableRowF]

/-- A grid's cell for an opcode byte: row = high nibble, column = low nibble (R73). -/
def cellAt {α : Type} (grid : List (List α)) (other : α) (b : Byte) : α :=
  (grid.getD (b.toNat / 16) []).getD (b.toNat % 16) other

/-- The default instance of OPTABLE (R73). The grid is full, so the stand-in of `cellAt` is never met. -/
def optable (b : Byte) : Descriptor := cellAt optableGrid (reservedCell .imp) b

/-- The 44 reserved opcodes of the default instance (R76). -/
def reservedOpcodes : List Byte :=
  [0x02, 0x22, 0x42, 0x62, 0x82, 0xC2, 0xE2] ++ [0x44] ++ [0x54, 0xD4, 0xF4] ++ [0x5C, 0xDC, 0xFC] ++
  [0x03, 0x13, 0x23, 0x33, 0x43, 0x53, 0x63, 0x73, 0x83, 0x93, 0xA3, 0xB3, 0xC3, 0xD3, 0xE3, 0xF3] ++
  [0x0B, 0x1B, 0x2B, 0x3B, 0x4B, 0x5B, 0x6B, 0x7B, 0x8B, 0x9B, 0xAB, 0xBB, 0xEB, 0xFB]

/-- The default parameters (R5): INT_MARKER, PH_BYTE, PH_WORD and UNK_MNEMONIC have the values the spec gives. That an
emulator is attached is a DESIGN CHOICE (log 5); it changes no register and no event (R200). -/
def defaultParams : Params where
  optable := optable
  modetable := modetable
  intMarker := txt "INT"
  phByte := txt "??"
  phWord := txt "????"
  unkMnemonic := txt "???"
  emuEnable := true

/-- `LEN(b)` for a known opcode byte (R63): the length of its mode. -/
def lenOf (P : Params) (b : Byte) : Nat := (P.modetable (P.optable b).mode).length

/-- `LEN` of an opcode byte or X: `LEN(X) = 1` (R77). -/
def lenX (P : Params) : ByteX → Nat
  | none => 1
  | some b => lenOf P b

/-- `MODE` of an opcode byte or X: `MODE(X) = IMP` (R77). -/
def modeX (P : Params) : ByteX → Mode
  | none => .imp
  | some b => (P.optable b).mode

/-- `MNEM` of an opcode byte or X: `MNEM(X) = UNK_MNEMONIC` (R77). -/
def mnemX (P : Params) : ByteX → Text
  | none => P.unkMnemonic
  | some b => (P.optable b).mnemonic

/-- `EARLY` of an opcode byte or X: `EARLY(X) = 0` (R77). No classifier or retire rule reads it (R75). -/
def earlyX (P : Params) : ByteX → Bool
  | none => false
  | some b => (P.optable b).earlyWrite

/-- `CLASS` of an opcode byte or X: `CLASS(X) = UNKNOWN` (R77, R113). -/
def classX (P : Params) : ByteX → RunClass
  | none => .unknown
  | some b => .table (P.optable b).cls

end Sys2Proof.Machine
end

