-- ==== Sys2Proof/Syntax.lean ====
section
/-! DEFINITION. The input of the block (spec/30_encoding.md R60) and the instructions: ONE inductive `Instr` with one
constructor per row of spec/opcode_table.json. The 256 opcode rows carry the operand bytes their format gives them
(F1 none, F2 one, F3 two; R63), each a byte or X (R14). The ten rows that no opcode byte selects are the sample kinds,
END and the two run-time retire classes. -/

namespace Sys2Proof

/-- The eight data lines, line 0 the least significant bit (R60). -/
structure Lines where
  d7 : Level
  d6 : Level
  d5 : Level
  d4 : Level
  d3 : Level
  d2 : Level
  d1 : Level
  d0 : Level
deriving DecidableEq, Repr

/-- A BusSample as hardware inputs (R60): data lines, read/write line, opcode-fetch line, timestamp. -/
structure Sample where
  d : Lines
  rw : Level
  sync : Level
  ts : Nat
deriving DecidableEq, Repr

/-- One input of the block: a sample, or END, the fourth input kind, which has no fields (R62, R186). -/
inductive Input where
  | sample (m : Sample)
  | endOfCapture
deriving DecidableEq, Repr

/-- The instructions, one constructor per row of spec/opcode_table.json: first the rows with fields, in the table's order,
then the rows without (the compiled code of an inductive type has room for 244 constructors with fields). -/
inductive Instr where
  /-- ORA 0x01, mode IZX (R136). -/
  | oraIzx (o1 : ByteX)
  /-- NOP 0x02, mode IMM, reserved (R132). -/
  | nopImm02 (o1 : ByteX)
  /-- TSB 0x04, mode ZP (R133). -/
  | tsbZp (o1 : ByteX)
  /-- ORA 0x05, mode ZP (R133). -/
  | oraZp (o1 : ByteX)
  /-- ASL 0x06, mode ZP (R133). -/
  | aslZp (o1 : ByteX)
  /-- RMB0 0x07, mode ZP (R133). -/
  | rmb0 (o1 : ByteX)
  /-- ORA 0x09, mode IMM (R132). -/
  | oraImm (o1 : ByteX)
  /-- TSB 0x0C, mode ABS (R139). -/
  | tsbAbs (o1 : ByteX) (o2 : ByteX)
  /-- ORA 0x0D, mode ABS (R139). -/
  | oraAbs (o1 : ByteX) (o2 : ByteX)
  /-- ASL 0x0E, mode ABS (R139). -/
  | aslAbs (o1 : ByteX) (o2 : ByteX)
  /-- BBR0 0x0F, mode ZPR (R168). -/
  | bbr0 (o1 : ByteX) (o2 : ByteX)
  /-- BPL 0x10, mode REL (R154). -/
  | bpl (o1 : ByteX)
  /-- ORA 0x11, mode IZY (R137). -/
  | oraIzy (o1 : ByteX)
  /-- ORA 0x12, mode IZP (R138). -/
  | oraIzp (o1 : ByteX)
  /-- TRB 0x14, mode ZP (R133). -/
  | trbZp (o1 : ByteX)
  /-- ORA 0x15, mode ZPX (R134). -/
  | oraZpx (o1 : ByteX)
  /-- ASL 0x16, mode ZPX (R134). -/
  | aslZpx (o1 : ByteX)
  /-- RMB1 0x17, mode ZP (R133). -/
  | rmb1 (o1 : ByteX)
  /-- ORA 0x19, mode ABY (R141). -/
  | oraAby (o1 : ByteX) (o2 : ByteX)
  /-- TRB 0x1C, mode ABS (R139). -/
  | trbAbs (o1 : ByteX) (o2 : ByteX)
  /-- ORA 0x1D, mode ABX (R140). -/
  | oraAbx (o1 : ByteX) (o2 : ByteX)
  /-- ASL 0x1E, mode ABX (R140). -/
  | aslAbx (o1 : ByteX) (o2 : ByteX)
  /-- BBR1 0x1F, mode ZPR (R168). -/
  | bbr1 (o1 : ByteX) (o2 : ByteX)
  /-- JSR 0x20, mode ABS (R150). -/
  | jsr (o1 : ByteX) (o2 : ByteX)
  /-- AND 0x21, mode IZX (R136). -/
  | andIzx (o1 : ByteX)
  /-- NOP 0x22, mode IMM, reserved (R132). -/
  | nopImm22 (o1 : ByteX)
  /-- BIT 0x24, mode ZP (R133). -/
  | bitZp (o1 : ByteX)
  /-- AND 0x25, mode ZP (R133). -/
  | andZp (o1 : ByteX)
  /-- ROL 0x26, mode ZP (R133). -/
  | rolZp (o1 : ByteX)
  /-- RMB2 0x27, mode ZP (R133). -/
  | rmb2 (o1 : ByteX)
  /-- AND 0x29, mode IMM (R132). -/
  | andImm (o1 : ByteX)
  /-- BIT 0x2C, mode ABS (R139). -/
  | bitAbs (o1 : ByteX) (o2 : ByteX)
  /-- AND 0x2D, mode ABS (R139). -/
  | andAbs (o1 : ByteX) (o2 : ByteX)
  /-- ROL 0x2E, mode ABS (R139). -/
  | rolAbs (o1 : ByteX) (o2 : ByteX)
  /-- BBR2 0x2F, mode ZPR (R168). -/
  | bbr2 (o1 : ByteX) (o2 : ByteX)
  /-- BMI 0x30, mode REL (R155). -/
  | bmi (o1 : ByteX)
  /-- AND 0x31, mode IZY (R137). -/
  | andIzy (o1 : ByteX)
  /-- AND 0x32, mode IZP (R138). -/
  | andIzp (o1 : ByteX)
  /-- BIT 0x34, mode ZPX (R134). -/
  | bitZpx (o1 : ByteX)
  /-- AND 0x35, mode ZPX (R134). -/
  | andZpx (o1 : ByteX)
  /-- ROL 0x36, mode ZPX (R134). -/
  | rolZpx (o1 : ByteX)
  /-- RMB3 0x37, mode ZP (R133). -/
  | rmb3 (o1 : ByteX)
  /-- AND 0x39, mode ABY (R141). -/
  | andAby (o1 : ByteX) (o2 : ByteX)
  /-- BIT 0x3C, mode ABX (R140). -/
  | bitAbx (o1 : ByteX) (o2 : ByteX)
  /-- AND 0x3D, mode ABX (R140). -/
  | andAbx (o1 : ByteX) (o2 : ByteX)
  /-- ROL 0x3E, mode ABX (R140). -/
  | rolAbx (o1 : ByteX) (o2 : ByteX)
  /-- BBR3 0x3F, mode ZPR (R168). -/
  | bbr3 (o1 : ByteX) (o2 : ByteX)
  /-- EOR 0x41, mode IZX (R136). -/
  | eorIzx (o1 : ByteX)
  /-- NOP 0x42, mode IMM, reserved (R132). -/
  | nopImm42 (o1 : ByteX)
  /-- NOP 0x44, mode ZP, reserved (R133). -/
  | nopZp44 (o1 : ByteX)
  /-- EOR 0x45, mode ZP (R133). -/
  | eorZp (o1 : ByteX)
  /-- LSR 0x46, mode ZP (R133). -/
  | lsrZp (o1 : ByteX)
  /-- RMB4 0x47, mode ZP (R133). -/
  | rmb4 (o1 : ByteX)
  /-- EOR 0x49, mode IMM (R132). -/
  | eorImm (o1 : ByteX)
  /-- JMP 0x4C, mode ABS (R151). -/
  | jmpAbs (o1 : ByteX) (o2 : ByteX)
  /-- EOR 0x4D, mode ABS (R139). -/
  | eorAbs (o1 : ByteX) (o2 : ByteX)
  /-- LSR 0x4E, mode ABS (R139). -/
  | lsrAbs (o1 : ByteX) (o2 : ByteX)
  /-- BBR4 0x4F, mode ZPR (R168). -/
  | bbr4 (o1 : ByteX) (o2 : ByteX)
  /-- BVC 0x50, mode REL (R156). -/
  | bvc (o1 : ByteX)
  /-- EOR 0x51, mode IZY (R137). -/
  | eorIzy (o1 : ByteX)
  /-- EOR 0x52, mode IZP (R138). -/
  | eorIzp (o1 : ByteX)
  /-- NOP 0x54, mode ZPX, reserved (R134). -/
  | nopZpx54 (o1 : ByteX)
  /-- EOR 0x55, mode ZPX (R134). -/
  | eorZpx (o1 : ByteX)
  /-- LSR 0x56, mode ZPX (R134). -/
  | lsrZpx (o1 : ByteX)
  /-- RMB5 0x57, mode ZP (R133). -/
  | rmb5 (o1 : ByteX)
  /-- EOR 0x59, mode ABY (R141). -/
  | eorAby (o1 : ByteX) (o2 : ByteX)
  /-- NOP 0x5C, mode ABS, reserved (R139). -/
  | nopAbs5C (o1 : ByteX) (o2 : ByteX)
  /-- EOR 0x5D, mode ABX (R140). -/
  | eorAbx (o1 : ByteX) (o2 : ByteX)
  /-- LSR 0x5E, mode ABX (R140). -/
  | lsrAbx (o1 : ByteX) (o2 : ByteX)
  /-- BBR5 0x5F, mode ZPR (R168). -/
  | bbr5 (o1 : ByteX) (o2 : ByteX)
  /-- ADC 0x61, mode IZX (R136). -/
  | adcIzx (o1 : ByteX)
  /-- NOP 0x62, mode IMM, reserved (R132). -/
  | nopImm62 (o1 : ByteX)
  /-- STZ 0x64, mode ZP (R133). -/
  | stzZp (o1 : ByteX)
  /-- ADC 0x65, mode ZP (R133). -/
  | adcZp (o1 : ByteX)
  /-- ROR 0x66, mode ZP (R133). -/
  | rorZp (o1 : ByteX)
  /-- RMB6 0x67, mode ZP (R133). -/
  | rmb6 (o1 : ByteX)
  /-- ADC 0x69, mode IMM (R132). -/
  | adcImm (o1 : ByteX)
  /-- JMP 0x6C, mode IND (R152). -/
  | jmpInd (o1 : ByteX) (o2 : ByteX)
  /-- ADC 0x6D, mode ABS (R139). -/
  | adcAbs (o1 : ByteX) (o2 : ByteX)
  /-- ROR 0x6E, mode ABS (R139). -/
  | rorAbs (o1 : ByteX) (o2 : ByteX)
  /-- BBR6 0x6F, mode ZPR (R168). -/
  | bbr6 (o1 : ByteX) (o2 : ByteX)
  /-- BVS 0x70, mode REL (R157). -/
  | bvs (o1 : ByteX)
  /-- ADC 0x71, mode IZY (R137). -/
  | adcIzy (o1 : ByteX)
  /-- ADC 0x72, mode IZP (R138). -/
  | adcIzp (o1 : ByteX)
  /-- STZ 0x74, mode ZPX (R134). -/
  | stzZpx (o1 : ByteX)
  /-- ADC 0x75, mode ZPX (R134). -/
  | adcZpx (o1 : ByteX)
  /-- ROR 0x76, mode ZPX (R134). -/
  | rorZpx (o1 : ByteX)
  /-- RMB7 0x77, mode ZP (R133). -/
  | rmb7 (o1 : ByteX)
  /-- ADC 0x79, mode ABY (R141). -/
  | adcAby (o1 : ByteX) (o2 : ByteX)
  /-- JMP 0x7C, mode IAX (R153). -/
  | jmpIax (o1 : ByteX) (o2 : ByteX)
  /-- ADC 0x7D, mode ABX (R140). -/
  | adcAbx (o1 : ByteX) (o2 : ByteX)
  /-- ROR 0x7E, mode ABX (R140). -/
  | rorAbx (o1 : ByteX) (o2 : ByteX)
  /-- BBR7 0x7F, mode ZPR (R168). -/
  | bbr7 (o1 : ByteX) (o2 : ByteX)
  /-- BRA 0x80, mode REL (R158). -/
  | bra (o1 : ByteX)
  /-- STA 0x81, mode IZX (R136). -/
  | staIzx (o1 : ByteX)
  /-- NOP 0x82, mode IMM, reserved (R132). -/
  | nopImm82 (o1 : ByteX)
  /-- STY 0x84, mode ZP (R133). -/
  | styZp (o1 : ByteX)
  /-- STA 0x85, mode ZP (R133). -/
  | staZp (o1 : ByteX)
  /-- STX 0x86, mode ZP (R133). -/
  | stxZp (o1 : ByteX)
  /-- SMB0 0x87, mode ZP (R133). -/
  | smb0 (o1 : ByteX)
  /-- BIT 0x89, mode IMM (R132). -/
  | bitImm (o1 : ByteX)
  /-- STY 0x8C, mode ABS (R139). -/
  | styAbs (o1 : ByteX) (o2 : ByteX)
  /-- STA 0x8D, mode ABS (R139). -/
  | staAbs (o1 : ByteX) (o2 : ByteX)
  /-- STX 0x8E, mode ABS (R139). -/
  | stxAbs (o1 : ByteX) (o2 : ByteX)
  /-- BBS0 0x8F, mode ZPR (R168). -/
  | bbs0 (o1 : ByteX) (o2 : ByteX)
  /-- BCC 0x90, mode REL (R159). -/
  | bcc (o1 : ByteX)
  /-- STA 0x91, mode IZY (R137). -/
  | staIzy (o1 : ByteX)
  /-- STA 0x92, mode IZP (R138). -/
  | staIzp (o1 : ByteX)
  /-- STY 0x94, mode ZPX (R134). -/
  | styZpx (o1 : ByteX)
  /-- STA 0x95, mode ZPX (R134). -/
  | staZpx (o1 : ByteX)
  /-- STX 0x96, mode ZPY (R135). -/
  | stxZpy (o1 : ByteX)
  /-- SMB1 0x97, mode ZP (R133). -/
  | smb1 (o1 : ByteX)
  /-- STA 0x99, mode ABY (R141). -/
  | staAby (o1 : ByteX) (o2 : ByteX)
  /-- STZ 0x9C, mode ABS (R139). -/
  | stzAbs (o1 : ByteX) (o2 : ByteX)
  /-- STA 0x9D, mode ABX (R140). -/
  | staAbx (o1 : ByteX) (o2 : ByteX)
  /-- STZ 0x9E, mode ABX (R140). -/
  | stzAbx (o1 : ByteX) (o2 : ByteX)
  /-- BBS1 0x9F, mode ZPR (R168). -/
  | bbs1 (o1 : ByteX) (o2 : ByteX)
  /-- LDY 0xA0, mode IMM (R132). -/
  | ldyImm (o1 : ByteX)
  /-- LDA 0xA1, mode IZX (R136). -/
  | ldaIzx (o1 : ByteX)
  /-- LDX 0xA2, mode IMM (R132). -/
  | ldxImm (o1 : ByteX)
  /-- LDY 0xA4, mode ZP (R133). -/
  | ldyZp (o1 : ByteX)
  /-- LDA 0xA5, mode ZP (R133). -/
  | ldaZp (o1 : ByteX)
  /-- LDX 0xA6, mode ZP (R133). -/
  | ldxZp (o1 : ByteX)
  /-- SMB2 0xA7, mode ZP (R133). -/
  | smb2 (o1 : ByteX)
  /-- LDA 0xA9, mode IMM (R132). -/
  | ldaImm (o1 : ByteX)
  /-- LDY 0xAC, mode ABS (R139). -/
  | ldyAbs (o1 : ByteX) (o2 : ByteX)
  /-- LDA 0xAD, mode ABS (R139). -/
  | ldaAbs (o1 : ByteX) (o2 : ByteX)
  /-- LDX 0xAE, mode ABS (R139). -/
  | ldxAbs (o1 : ByteX) (o2 : ByteX)
  /-- BBS2 0xAF, mode ZPR (R168). -/
  | bbs2 (o1 : ByteX) (o2 : ByteX)
  /-- BCS 0xB0, mode REL (R160). -/
  | bcs (o1 : ByteX)
  /-- LDA 0xB1, mode IZY (R137). -/
  | ldaIzy (o1 : ByteX)
  /-- LDA 0xB2, mode IZP (R138). -/
  | ldaIzp (o1 : ByteX)
  /-- LDY 0xB4, mode ZPX (R134). -/
  | ldyZpx (o1 : ByteX)
  /-- LDA 0xB5, mode ZPX (R134). -/
  | ldaZpx (o1 : ByteX)
  /-- LDX 0xB6, mode ZPY (R135). -/
  | ldxZpy (o1 : ByteX)
  /-- SMB3 0xB7, mode ZP (R133). -/
  | smb3 (o1 : ByteX)
  /-- LDA 0xB9, mode ABY (R141). -/
  | ldaAby (o1 : ByteX) (o2 : ByteX)
  /-- LDY 0xBC, mode ABX (R140). -/
  | ldyAbx (o1 : ByteX) (o2 : ByteX)
  /-- LDA 0xBD, mode ABX (R140). -/
  | ldaAbx (o1 : ByteX) (o2 : ByteX)
  /-- LDX 0xBE, mode ABY (R141). -/
  | ldxAby (o1 : ByteX) (o2 : ByteX)
  /-- BBS3 0xBF, mode ZPR (R168). -/
  | bbs3 (o1 : ByteX) (o2 : ByteX)
  /-- CPY 0xC0, mode IMM (R132). -/
  | cpyImm (o1 : ByteX)
  /-- CMP 0xC1, mode IZX (R136). -/
  | cmpIzx (o1 : ByteX)
  /-- NOP 0xC2, mode IMM, reserved (R132). -/
  | nopImmC2 (o1 : ByteX)
  /-- CPY 0xC4, mode ZP (R133). -/
  | cpyZp (o1 : ByteX)
  /-- CMP 0xC5, mode ZP (R133). -/
  | cmpZp (o1 : ByteX)
  /-- DEC 0xC6, mode ZP (R133). -/
  | decZp (o1 : ByteX)
  /-- SMB4 0xC7, mode ZP (R133). -/
  | smb4 (o1 : ByteX)
  /-- CMP 0xC9, mode IMM (R132). -/
  | cmpImm (o1 : ByteX)
  /-- CPY 0xCC, mode ABS (R139). -/
  | cpyAbs (o1 : ByteX) (o2 : ByteX)
  /-- CMP 0xCD, mode ABS (R139). -/
  | cmpAbs (o1 : ByteX) (o2 : ByteX)
  /-- DEC 0xCE, mode ABS (R139). -/
  | decAbs (o1 : ByteX) (o2 : ByteX)
  /-- BBS4 0xCF, mode ZPR (R168). -/
  | bbs4 (o1 : ByteX) (o2 : ByteX)
  /-- BNE 0xD0, mode REL (R161). -/
  | bne (o1 : ByteX)
  /-- CMP 0xD1, mode IZY (R137). -/
  | cmpIzy (o1 : ByteX)
  /-- CMP 0xD2, mode IZP (R138). -/
  | cmpIzp (o1 : ByteX)
  /-- NOP 0xD4, mode ZPX, reserved (R134). -/
  | nopZpxD4 (o1 : ByteX)
  /-- CMP 0xD5, mode ZPX (R134). -/
  | cmpZpx (o1 : ByteX)
  /-- DEC 0xD6, mode ZPX (R134). -/
  | decZpx (o1 : ByteX)
  /-- SMB5 0xD7, mode ZP (R133). -/
  | smb5 (o1 : ByteX)
  /-- CMP 0xD9, mode ABY (R141). -/
  | cmpAby (o1 : ByteX) (o2 : ByteX)
  /-- NOP 0xDC, mode ABS, reserved (R139). -/
  | nopAbsDC (o1 : ByteX) (o2 : ByteX)
  /-- CMP 0xDD, mode ABX (R140). -/
  | cmpAbx (o1 : ByteX) (o2 : ByteX)
  /-- DEC 0xDE, mode ABX (R140). -/
  | decAbx (o1 : ByteX) (o2 : ByteX)
  /-- BBS5 0xDF, mode ZPR (R168). -/
  | bbs5 (o1 : ByteX) (o2 : ByteX)
  /-- CPX 0xE0, mode IMM (R132). -/
  | cpxImm (o1 : ByteX)
  /-- SBC 0xE1, mode IZX (R136). -/
  | sbcIzx (o1 : ByteX)
  /-- NOP 0xE2, mode IMM, reserved (R132). -/
  | nopImmE2 (o1 : ByteX)
  /-- CPX 0xE4, mode ZP (R133). -/
  | cpxZp (o1 : ByteX)
  /-- SBC 0xE5, mode ZP (R133). -/
  | sbcZp (o1 : ByteX)
  /-- INC 0xE6, mode ZP (R133). -/
  | incZp (o1 : ByteX)
  /-- SMB6 0xE7, mode ZP (R133). -/
  | smb6 (o1 : ByteX)
  /-- SBC 0xE9, mode IMM (R132). -/
  | sbcImm (o1 : ByteX)
  /-- CPX 0xEC, mode ABS (R139). -/
  | cpxAbs (o1 : ByteX) (o2 : ByteX)
  /-- SBC 0xED, mode ABS (R139). -/
  | sbcAbs (o1 : ByteX) (o2 : ByteX)
  /-- INC 0xEE, mode ABS (R139). -/
  | incAbs (o1 : ByteX) (o2 : ByteX)
  /-- BBS6 0xEF, mode ZPR (R168). -/
  | bbs6 (o1 : ByteX) (o2 : ByteX)
  /-- BEQ 0xF0, mode REL (R162). -/
  | beq (o1 : ByteX)
  /-- SBC 0xF1, mode IZY (R137). -/
  | sbcIzy (o1 : ByteX)
  /-- SBC 0xF2, mode IZP (R138). -/
  | sbcIzp (o1 : ByteX)
  /-- NOP 0xF4, mode ZPX, reserved (R134). -/
  | nopZpxF4 (o1 : ByteX)
  /-- SBC 0xF5, mode ZPX (R134). -/
  | sbcZpx (o1 : ByteX)
  /-- INC 0xF6, mode ZPX (R134). -/
  | incZpx (o1 : ByteX)
  /-- SMB7 0xF7, mode ZP (R133). -/
  | smb7 (o1 : ByteX)
  /-- SBC 0xF9, mode ABY (R141). -/
  | sbcAby (o1 : ByteX) (o2 : ByteX)
  /-- NOP 0xFC, mode ABS, reserved (R139). -/
  | nopAbsFC (o1 : ByteX) (o2 : ByteX)
  /-- SBC 0xFD, mode ABX (R140). -/
  | sbcAbx (o1 : ByteX) (o2 : ByteX)
  /-- INC 0xFE, mode ABX (R140). -/
  | incAbx (o1 : ByteX) (o2 : ByteX)
  /-- BBS7 0xFF, mode ZPR (R168). -/
  | bbs7 (o1 : ByteX) (o2 : ByteX)
  /-- A FETCH sample: `D`, `rw` (either value, R62) and the timestamp (R91). -/
  | sampleFetch (d : ByteX) (rw : Bool) (ts : Nat)
  /-- A WRITE sample (R92). -/
  | sampleWrite (d : ByteX) (ts : Nat)
  /-- A READ sample that is operand byte 1 (R93). -/
  | sampleReadOperand1 (d : ByteX) (ts : Nat)
  /-- A READ sample that is operand byte 2 of an ordinary instruction (R94). -/
  | sampleReadOperand2 (d : ByteX) (ts : Nat)
  /-- A READ sample that is the dummy read of a call (R95). -/
  | sampleReadCallDummy (d : ByteX) (ts : Nat)
  /-- A READ sample that is the deferred operand byte 2 of a call (R96). -/
  | sampleReadCallOperand2 (d : ByteX) (ts : Nat)
  /-- Any other READ sample (R97). -/
  | sampleReadMemoryRead (d : ByteX) (ts : Nat)
  /-- The retire of a reclassified interrupt: the fetched byte (never 0x00, R112) and the operand registers (R166). -/
  | retireInt (ir : Byte) (o1 : ByteX) (o2 : ByteX)
  /-- BRK 0x00, mode IMP (R165). -/
  | brk
  /-- NOP 0x03, mode IMP, reserved (R130). -/
  | nopImp03
  /-- PHP 0x08, mode IMP (R130). -/
  | php
  /-- ASL 0x0A, mode ACC (R131). -/
  | aslAcc
  /-- NOP 0x0B, mode IMP, reserved (R130). -/
  | nopImp0B
  /-- NOP 0x13, mode IMP, reserved (R130). -/
  | nopImp13
  /-- CLC 0x18, mode IMP (R130). -/
  | clc
  /-- INC 0x1A, mode ACC (R131). -/
  | incAcc
  /-- NOP 0x1B, mode IMP, reserved (R130). -/
  | nopImp1B
  /-- NOP 0x23, mode IMP, reserved (R130). -/
  | nopImp23
  /-- PLP 0x28, mode IMP (R130). -/
  | plp
  /-- ROL 0x2A, mode ACC (R131). -/
  | rolAcc
  /-- NOP 0x2B, mode IMP, reserved (R130). -/
  | nopImp2B
  /-- NOP 0x33, mode IMP, reserved (R130). -/
  | nopImp33
  /-- SEC 0x38, mode IMP (R130). -/
  | sec
  /-- DEC 0x3A, mode ACC (R131). -/
  | decAcc
  /-- NOP 0x3B, mode IMP, reserved (R130). -/
  | nopImp3B
  /-- RTI 0x40, mode IMP (R164). -/
  | rti
  /-- NOP 0x43, mode IMP, reserved (R130). -/
  | nopImp43
  /-- PHA 0x48, mode IMP (R130). -/
  | pha
  /-- LSR 0x4A, mode ACC (R131). -/
  | lsrAcc
  /-- NOP 0x4B, mode IMP, reserved (R130). -/
  | nopImp4B
  /-- NOP 0x53, mode IMP, reserved (R130). -/
  | nopImp53
  /-- CLI 0x58, mode IMP (R130). -/
  | cli
  /-- PHY 0x5A, mode IMP (R130). -/
  | phy
  /-- NOP 0x5B, mode IMP, reserved (R130). -/
  | nopImp5B
  /-- RTS 0x60, mode IMP (R163). -/
  | rts
  /-- NOP 0x63, mode IMP, reserved (R130). -/
  | nopImp63
  /-- PLA 0x68, mode IMP (R130). -/
  | pla
  /-- ROR 0x6A, mode ACC (R131). -/
  | rorAcc
  /-- NOP 0x6B, mode IMP, reserved (R130). -/
  | nopImp6B
  /-- NOP 0x73, mode IMP, reserved (R130). -/
  | nopImp73
  /-- SEI 0x78, mode IMP (R130). -/
  | sei
  /-- PLY 0x7A, mode IMP (R130). -/
  | ply
  /-- NOP 0x7B, mode IMP, reserved (R130). -/
  | nopImp7B
  /-- NOP 0x83, mode IMP, reserved (R130). -/
  | nopImp83
  /-- DEY 0x88, mode IMP (R130). -/
  | dey
  /-- TXA 0x8A, mode IMP (R130). -/
  | txa
  /-- NOP 0x8B, mode IMP, reserved (R130). -/
  | nopImp8B
  /-- NOP 0x93, mode IMP, reserved (R130). -/
  | nopImp93
  /-- TYA 0x98, mode IMP (R130). -/
  | tya
  /-- TXS 0x9A, mode IMP (R130). -/
  | txs
  /-- NOP 0x9B, mode IMP, reserved (R130). -/
  | nopImp9B
  /-- NOP 0xA3, mode IMP, reserved (R130). -/
  | nopImpA3
  /-- TAY 0xA8, mode IMP (R130). -/
  | tay
  /-- TAX 0xAA, mode IMP (R130). -/
  | tax
  /-- NOP 0xAB, mode IMP, reserved (R130). -/
  | nopImpAB
  /-- NOP 0xB3, mode IMP, reserved (R130). -/
  | nopImpB3
  /-- CLV 0xB8, mode IMP (R130). -/
  | clv
  /-- TSX 0xBA, mode IMP (R130). -/
  | tsx
  /-- NOP 0xBB, mode IMP, reserved (R130). -/
  | nopImpBB
  /-- NOP 0xC3, mode IMP, reserved (R130). -/
  | nopImpC3
  /-- INY 0xC8, mode IMP (R130). -/
  | iny
  /-- DEX 0xCA, mode IMP (R130). -/
  | dex
  /-- WAI 0xCB, mode IMP (R130). -/
  | wai
  /-- NOP 0xD3, mode IMP, reserved (R130). -/
  | nopImpD3
  /-- CLD 0xD8, mode IMP (R130). -/
  | cld
  /-- PHX 0xDA, mode IMP (R130). -/
  | phx
  /-- STP 0xDB, mode IMP (R130). -/
  | stp
  /-- NOP 0xE3, mode IMP, reserved (R130). -/
  | nopImpE3
  /-- INX 0xE8, mode IMP (R130). -/
  | inx
  /-- NOP 0xEA, mode IMP (R130). -/
  | nop
  /-- NOP 0xEB, mode IMP, reserved (R130). -/
  | nopImpEB
  /-- NOP 0xF3, mode IMP, reserved (R130). -/
  | nopImpF3
  /-- SED 0xF8, mode IMP (R130). -/
  | sed
  /-- PLX 0xFA, mode IMP (R130). -/
  | plx
  /-- NOP 0xFB, mode IMP, reserved (R130). -/
  | nopImpFB
  /-- End of capture (R186). -/
  | endOfCapture
  /-- The retire of a span whose opcode byte was indeterminate (R167). -/
  | retireUnknown
deriving DecidableEq, Repr

end Sys2Proof
end

