-- ==== Sys2Proof/WellFormed.lean ====
section
/-! DEFINITION. Well-formed instructions. An operand of an opcode row may be any byte or X (R14, R61), and a sample row may
hold any data value and timestamp, so these rows have no check. The one row with a check is the reclassified interrupt,
whose fetched byte is never 0x00 (R112). -/

namespace Sys2Proof

/-- The fields of an instruction lie in the domain the spec gives them (R112 for RETIRE.INT). -/
def Instr.wellFormed : Instr → Bool
  | .retireInt ir _ _ => ir != 0x00#8
  | _ => true

/-- `Instr.wellFormed` as a proposition. -/
abbrev WellFormed (i : Instr) : Prop := i.wellFormed = true

end Sys2Proof
end

