-- ==== Sys2Proof/Decode.lean ====
section
/-! DEFINITION. Decoding (spec/30_encoding.md). Two things are decoded: the input sample (R60 to R62), whose READ outcomes
also depend on PHASE, REM and the call test (R93 to R97), and the instruction bytes of the observed CPU (R63, R73, R77).
The encoders stand after the decoders. Decoding is total; bytes that hold no whole instruction are rejected by name. -/

namespace Sys2Proof

open Sys2Proof.Machine

/-! ## The bus sample -/

/-- The bit a line shows, if it shows one (R60). -/
def Level.bit? : Level → Option Bool
  | .zero => some false
  | .one => some true
  | .indeterminate => none

/-- The level that shows a bit. -/
def Level.ofBit (b : Bool) : Level := if b then .one else .zero

/-- The data value `D` of a sample (R61): the sum of `d[i] * 2^i` when every line shows a bit, else X. -/
def Lines.value (l : Lines) : ByteX :=
  match l.d7.bit?, l.d6.bit?, l.d5.bit?, l.d4.bit?, l.d3.bit?, l.d2.bit?, l.d1.bit?, l.d0.bit? with
  | some b7, some b6, some b5, some b4, some b3, some b2, some b1, some b0 =>
    some (BitVec.ofNat 8
      (b7.toNat * 128 + b6.toNat * 64 + b5.toNat * 32 + b4.toNat * 16 +
       b3.toNat * 8 + b2.toNat * 4 + b1.toNat * 2 + b0.toNat))
  | _, _, _, _, _, _, _, _ => none

/-- The row a sample selects, given `D`, its known `rw` and `sync`, and the state the READ outcomes test: kinds by R62,
READ outcomes in the order of R100 (R93; R94 or R95; R96 or R97). `call` is the test CALL. -/
def decodeSample (phase : Phase) (rem : Nat) (call : Bool) (d : ByteX) (rw sync : Bool) (ts : Nat) : Instr :=
  if sync then .sampleFetch d rw ts
  else if !rw then .sampleWrite d ts
  else if phase = .fetch ∧ 0 < rem then .sampleReadOperand1 d ts
  else if phase = .operand1 ∧ 0 < rem then
    if call then .sampleReadCallDummy d ts else .sampleReadOperand2 d ts
  else if call ∧ 0 < rem then .sampleReadCallOperand2 d ts
  else .sampleReadMemoryRead d ts

/-! ## The instruction bytes -/

/-- Why bytes hold no instruction. -/
inductive DecodeError where
  /-- There is no opcode byte. -/
  | noOpcodeByte
  /-- The opcode's length asks for operand bytes that are not there (R63). -/
  | missingOperand (opcode : Byte)
deriving DecidableEq, Repr

/-- The instructions of row 0x of R73, each given the operand bytes. -/
def instrRow0 : List (ByteX → ByteX → Instr) :=
  [fun _ _ => .brk, fun a _ => .oraIzx a, fun a _ => .nopImm02 a, fun _ _ => .nopImp03,
   fun a _ => .tsbZp a, fun a _ => .oraZp a, fun a _ => .aslZp a, fun a _ => .rmb0 a,
   fun _ _ => .php, fun a _ => .oraImm a, fun _ _ => .aslAcc, fun _ _ => .nopImp0B,
   fun a b => .tsbAbs a b, fun a b => .oraAbs a b, fun a b => .aslAbs a b, fun a b => .bbr0 a b]

/-- The instructions of row 1x of R73, each given the operand bytes. -/
def instrRow1 : List (ByteX → ByteX → Instr) :=
  [fun a _ => .bpl a, fun a _ => .oraIzy a, fun a _ => .oraIzp a, fun _ _ => .nopImp13,
   fun a _ => .trbZp a, fun a _ => .oraZpx a, fun a _ => .aslZpx a, fun a _ => .rmb1 a,
   fun _ _ => .clc, fun a b => .oraAby a b, fun _ _ => .incAcc, fun _ _ => .nopImp1B,
   fun a b => .trbAbs a b, fun a b => .oraAbx a b, fun a b => .aslAbx a b, fun a b => .bbr1 a b]

/-- The instructions of row 2x of R73, each given the operand bytes. -/
def instrRow2 : List (ByteX → ByteX → Instr) :=
  [fun a b => .jsr a b, fun a _ => .andIzx a, fun a _ => .nopImm22 a, fun _ _ => .nopImp23,
   fun a _ => .bitZp a, fun a _ => .andZp a, fun a _ => .rolZp a, fun a _ => .rmb2 a,
   fun _ _ => .plp, fun a _ => .andImm a, fun _ _ => .rolAcc, fun _ _ => .nopImp2B,
   fun a b => .bitAbs a b, fun a b => .andAbs a b, fun a b => .rolAbs a b, fun a b => .bbr2 a b]

/-- The instructions of row 3x of R73, each given the operand bytes. -/
def instrRow3 : List (ByteX → ByteX → Instr) :=
  [fun a _ => .bmi a, fun a _ => .andIzy a, fun a _ => .andIzp a, fun _ _ => .nopImp33,
   fun a _ => .bitZpx a, fun a _ => .andZpx a, fun a _ => .rolZpx a, fun a _ => .rmb3 a,
   fun _ _ => .sec, fun a b => .andAby a b, fun _ _ => .decAcc, fun _ _ => .nopImp3B,
   fun a b => .bitAbx a b, fun a b => .andAbx a b, fun a b => .rolAbx a b, fun a b => .bbr3 a b]

/-- The instructions of row 4x of R73, each given the operand bytes. -/
def instrRow4 : List (ByteX → ByteX → Instr) :=
  [fun _ _ => .rti, fun a _ => .eorIzx a, fun a _ => .nopImm42 a, fun _ _ => .nopImp43,
   fun a _ => .nopZp44 a, fun a _ => .eorZp a, fun a _ => .lsrZp a, fun a _ => .rmb4 a,
   fun _ _ => .pha, fun a _ => .eorImm a, fun _ _ => .lsrAcc, fun _ _ => .nopImp4B,
   fun a b => .jmpAbs a b, fun a b => .eorAbs a b, fun a b => .lsrAbs a b, fun a b => .bbr4 a b]

/-- The instructions of row 5x of R73, each given the operand bytes. -/
def instrRow5 : List (ByteX → ByteX → Instr) :=
  [fun a _ => .bvc a, fun a _ => .eorIzy a, fun a _ => .eorIzp a, fun _ _ => .nopImp53,
   fun a _ => .nopZpx54 a, fun a _ => .eorZpx a, fun a _ => .lsrZpx a, fun a _ => .rmb5 a,
   fun _ _ => .cli, fun a b => .eorAby a b, fun _ _ => .phy, fun _ _ => .nopImp5B,
   fun a b => .nopAbs5C a b, fun a b => .eorAbx a b, fun a b => .lsrAbx a b, fun a b => .bbr5 a b]

/-- The instructions of row 6x of R73, each given the operand bytes. -/
def instrRow6 : List (ByteX → ByteX → Instr) :=
  [fun _ _ => .rts, fun a _ => .adcIzx a, fun a _ => .nopImm62 a, fun _ _ => .nopImp63,
   fun a _ => .stzZp a, fun a _ => .adcZp a, fun a _ => .rorZp a, fun a _ => .rmb6 a,
   fun _ _ => .pla, fun a _ => .adcImm a, fun _ _ => .rorAcc, fun _ _ => .nopImp6B,
   fun a b => .jmpInd a b, fun a b => .adcAbs a b, fun a b => .rorAbs a b, fun a b => .bbr6 a b]

/-- The instructions of row 7x of R73, each given the operand bytes. -/
def instrRow7 : List (ByteX → ByteX → Instr) :=
  [fun a _ => .bvs a, fun a _ => .adcIzy a, fun a _ => .adcIzp a, fun _ _ => .nopImp73,
   fun a _ => .stzZpx a, fun a _ => .adcZpx a, fun a _ => .rorZpx a, fun a _ => .rmb7 a,
   fun _ _ => .sei, fun a b => .adcAby a b, fun _ _ => .ply, fun _ _ => .nopImp7B,
   fun a b => .jmpIax a b, fun a b => .adcAbx a b, fun a b => .rorAbx a b, fun a b => .bbr7 a b]

/-- The instructions of row 8x of R73, each given the operand bytes. -/
def instrRow8 : List (ByteX → ByteX → Instr) :=
  [fun a _ => .bra a, fun a _ => .staIzx a, fun a _ => .nopImm82 a, fun _ _ => .nopImp83,
   fun a _ => .styZp a, fun a _ => .staZp a, fun a _ => .stxZp a, fun a _ => .smb0 a,
   fun _ _ => .dey, fun a _ => .bitImm a, fun _ _ => .txa, fun _ _ => .nopImp8B,
   fun a b => .styAbs a b, fun a b => .staAbs a b, fun a b => .stxAbs a b, fun a b => .bbs0 a b]

/-- The instructions of row 9x of R73, each given the operand bytes. -/
def instrRow9 : List (ByteX → ByteX → Instr) :=
  [fun a _ => .bcc a, fun a _ => .staIzy a, fun a _ => .staIzp a, fun _ _ => .nopImp93,
   fun a _ => .styZpx a, fun a _ => .staZpx a, fun a _ => .stxZpy a, fun a _ => .smb1 a,
   fun _ _ => .tya, fun a b => .staAby a b, fun _ _ => .txs, fun _ _ => .nopImp9B,
   fun a b => .stzAbs a b, fun a b => .staAbx a b, fun a b => .stzAbx a b, fun a b => .bbs1 a b]

/-- The instructions of row Ax of R73, each given the operand bytes. -/
def instrRowA : List (ByteX → ByteX → Instr) :=
  [fun a _ => .ldyImm a, fun a _ => .ldaIzx a, fun a _ => .ldxImm a, fun _ _ => .nopImpA3,
   fun a _ => .ldyZp a, fun a _ => .ldaZp a, fun a _ => .ldxZp a, fun a _ => .smb2 a,
   fun _ _ => .tay, fun a _ => .ldaImm a, fun _ _ => .tax, fun _ _ => .nopImpAB,
   fun a b => .ldyAbs a b, fun a b => .ldaAbs a b, fun a b => .ldxAbs a b, fun a b => .bbs2 a b]

/-- The instructions of row Bx of R73, each given the operand bytes. -/
def instrRowB : List (ByteX → ByteX → Instr) :=
  [fun a _ => .bcs a, fun a _ => .ldaIzy a, fun a _ => .ldaIzp a, fun _ _ => .nopImpB3,
   fun a _ => .ldyZpx a, fun a _ => .ldaZpx a, fun a _ => .ldxZpy a, fun a _ => .smb3 a,
   fun _ _ => .clv, fun a b => .ldaAby a b, fun _ _ => .tsx, fun _ _ => .nopImpBB,
   fun a b => .ldyAbx a b, fun a b => .ldaAbx a b, fun a b => .ldxAby a b, fun a b => .bbs3 a b]

/-- The instructions of row Cx of R73, each given the operand bytes. -/
def instrRowC : List (ByteX → ByteX → Instr) :=
  [fun a _ => .cpyImm a, fun a _ => .cmpIzx a, fun a _ => .nopImmC2 a, fun _ _ => .nopImpC3,
   fun a _ => .cpyZp a, fun a _ => .cmpZp a, fun a _ => .decZp a, fun a _ => .smb4 a,
   fun _ _ => .iny, fun a _ => .cmpImm a, fun _ _ => .dex, fun _ _ => .wai,
   fun a b => .cpyAbs a b, fun a b => .cmpAbs a b, fun a b => .decAbs a b, fun a b => .bbs4 a b]

/-- The instructions of row Dx of R73, each given the operand bytes. -/
def instrRowD : List (ByteX → ByteX → Instr) :=
  [fun a _ => .bne a, fun a _ => .cmpIzy a, fun a _ => .cmpIzp a, fun _ _ => .nopImpD3,
   fun a _ => .nopZpxD4 a, fun a _ => .cmpZpx a, fun a _ => .decZpx a, fun a _ => .smb5 a,
   fun _ _ => .cld, fun a b => .cmpAby a b, fun _ _ => .phx, fun _ _ => .stp,
   fun a b => .nopAbsDC a b, fun a b => .cmpAbx a b, fun a b => .decAbx a b, fun a b => .bbs5 a b]

/-- The instructions of row Ex of R73, each given the operand bytes. -/
def instrRowE : List (ByteX → ByteX → Instr) :=
  [fun a _ => .cpxImm a, fun a _ => .sbcIzx a, fun a _ => .nopImmE2 a, fun _ _ => .nopImpE3,
   fun a _ => .cpxZp a, fun a _ => .sbcZp a, fun a _ => .incZp a, fun a _ => .smb6 a,
   fun _ _ => .inx, fun a _ => .sbcImm a, fun _ _ => .nop, fun _ _ => .nopImpEB,
   fun a b => .cpxAbs a b, fun a b => .sbcAbs a b, fun a b => .incAbs a b, fun a b => .bbs6 a b]

/-- The instructions of row Fx of R73, each given the operand bytes. -/
def instrRowF : List (ByteX → ByteX → Instr) :=
  [fun a _ => .beq a, fun a _ => .sbcIzy a, fun a _ => .sbcIzp a, fun _ _ => .nopImpF3,
   fun a _ => .nopZpxF4 a, fun a _ => .sbcZpx a, fun a _ => .incZpx a, fun a _ => .smb7 a,
   fun _ _ => .sed, fun a b => .sbcAby a b, fun _ _ => .plx, fun _ _ => .nopImpFB,
   fun a b => .nopAbsFC a b, fun a b => .sbcAbx a b, fun a b => .incAbx a b, fun a b => .bbs7 a b]

/-- The grid of R73 as instructions. -/
def instrGrid : List (List (ByteX → ByteX → Instr)) :=
  [instrRow0, instrRow1, instrRow2, instrRow3, instrRow4, instrRow5, instrRow6, instrRow7,
   instrRow8, instrRow9, instrRowA, instrRowB, instrRowC, instrRowD, instrRowE, instrRowF]

/-- The instruction of an opcode byte, with its operand bytes (R73). The grid is full, so the stand-in is never met. -/
def rowInstr (b : Byte) (o1 o2 : ByteX) : Instr := (cellAt instrGrid (fun _ _ => .retireUnknown) b) o1 o2

/-- The instruction held by the registers IR, OP1, OP2: the row of the opcode byte, or the unknown opcode when IR = X
(R77). -/
def spanInstr (ir o1 o2 : ByteX) : Instr :=
  match ir with
  | none => .retireUnknown
  | some b => rowInstr b o1 o2

/-- Read one instruction off bytes in bus order: the opcode alone gives the length, through the table (R63). An
indeterminate opcode byte has length 1 (R77). -/
def decode : List ByteX → Except DecodeError (Instr × List ByteX)
  | [] => .error .noOpcodeByte
  | none :: rest => .ok (.retireUnknown, rest)
  | some b :: rest =>
    match lenOf defaultParams b, rest with
    | 1, rest => .ok (rowInstr b none none, rest)
    | 2, o1 :: rest => .ok (rowInstr b o1 none, rest)
    | 3, o1 :: o2 :: rest => .ok (rowInstr b o1 o2, rest)
    | _, _ => .error (.missingOperand b)

/-- The three bytes, first byte lowest, of an instruction whose bits are `w`, the bits above `nbits` being 0. -/
def tableBytes (nbits w : Nat) : List ByteX :=
  let v := w % 2 ^ nbits
  [some (BitVec.ofNat 8 v), some (BitVec.ofNat 8 (v / 2 ^ 8)), some (BitVec.ofNat 8 (v / 2 ^ 16))]

/-- The instruction this decoder reads from an instruction whose bits are `w`, numbered as the opcode table numbers them
(bit 0 the least significant bit of the opcode byte), operand bytes above `nbits` being zero. -/
def decodeTableWord (nbits w : Nat) : Option Instr :=
  match decode (tableBytes nbits w) with
  | .ok (i, _) => some i
  | .error _ => none

/-! ## The encoders -/

/-- The bytes of an instruction in bus order (R63, R73): opcode, operand 1, operand 2. The unknown opcode is one
indeterminate byte. The sample rows and the reclassified interrupt have no bytes (R78). -/
def encode : Instr → Option (List ByteX)
  | .brk => some [some 0x00]
  | .oraIzx o1 => some [some 0x01, o1]
  | .nopImm02 o1 => some [some 0x02, o1]
  | .nopImp03 => some [some 0x03]
  | .tsbZp o1 => some [some 0x04, o1]
  | .oraZp o1 => some [some 0x05, o1]
  | .aslZp o1 => some [some 0x06, o1]
  | .rmb0 o1 => some [some 0x07, o1]
  | .php => some [some 0x08]
  | .oraImm o1 => some [some 0x09, o1]
  | .aslAcc => some [some 0x0A]
  | .nopImp0B => some [some 0x0B]
  | .tsbAbs o1 o2 => some [some 0x0C, o1, o2]
  | .oraAbs o1 o2 => some [some 0x0D, o1, o2]
  | .aslAbs o1 o2 => some [some 0x0E, o1, o2]
  | .bbr0 o1 o2 => some [some 0x0F, o1, o2]
  | .bpl o1 => some [some 0x10, o1]
  | .oraIzy o1 => some [some 0x11, o1]
  | .oraIzp o1 => some [some 0x12, o1]
  | .nopImp13 => some [some 0x13]
  | .trbZp o1 => some [some 0x14, o1]
  | .oraZpx o1 => some [some 0x15, o1]
  | .aslZpx o1 => some [some 0x16, o1]
  | .rmb1 o1 => some [some 0x17, o1]
  | .clc => some [some 0x18]
  | .oraAby o1 o2 => some [some 0x19, o1, o2]
  | .incAcc => some [some 0x1A]
  | .nopImp1B => some [some 0x1B]
  | .trbAbs o1 o2 => some [some 0x1C, o1, o2]
  | .oraAbx o1 o2 => some [some 0x1D, o1, o2]
  | .aslAbx o1 o2 => some [some 0x1E, o1, o2]
  | .bbr1 o1 o2 => some [some 0x1F, o1, o2]
  | .jsr o1 o2 => some [some 0x20, o1, o2]
  | .andIzx o1 => some [some 0x21, o1]
  | .nopImm22 o1 => some [some 0x22, o1]
  | .nopImp23 => some [some 0x23]
  | .bitZp o1 => some [some 0x24, o1]
  | .andZp o1 => some [some 0x25, o1]
  | .rolZp o1 => some [some 0x26, o1]
  | .rmb2 o1 => some [some 0x27, o1]
  | .plp => some [some 0x28]
  | .andImm o1 => some [some 0x29, o1]
  | .rolAcc => some [some 0x2A]
  | .nopImp2B => some [some 0x2B]
  | .bitAbs o1 o2 => some [some 0x2C, o1, o2]
  | .andAbs o1 o2 => some [some 0x2D, o1, o2]
  | .rolAbs o1 o2 => some [some 0x2E, o1, o2]
  | .bbr2 o1 o2 => some [some 0x2F, o1, o2]
  | .bmi o1 => some [some 0x30, o1]
  | .andIzy o1 => some [some 0x31, o1]
  | .andIzp o1 => some [some 0x32, o1]
  | .nopImp33 => some [some 0x33]
  | .bitZpx o1 => some [some 0x34, o1]
  | .andZpx o1 => some [some 0x35, o1]
  | .rolZpx o1 => some [some 0x36, o1]
  | .rmb3 o1 => some [some 0x37, o1]
  | .sec => some [some 0x38]
  | .andAby o1 o2 => some [some 0x39, o1, o2]
  | .decAcc => some [some 0x3A]
  | .nopImp3B => some [some 0x3B]
  | .bitAbx o1 o2 => some [some 0x3C, o1, o2]
  | .andAbx o1 o2 => some [some 0x3D, o1, o2]
  | .rolAbx o1 o2 => some [some 0x3E, o1, o2]
  | .bbr3 o1 o2 => some [some 0x3F, o1, o2]
  | .rti => some [some 0x40]
  | .eorIzx o1 => some [some 0x41, o1]
  | .nopImm42 o1 => some [some 0x42, o1]
  | .nopImp43 => some [some 0x43]
  | .nopZp44 o1 => some [some 0x44, o1]
  | .eorZp o1 => some [some 0x45, o1]
  | .lsrZp o1 => some [some 0x46, o1]
  | .rmb4 o1 => some [some 0x47, o1]
  | .pha => some [some 0x48]
  | .eorImm o1 => some [some 0x49, o1]
  | .lsrAcc => some [some 0x4A]
  | .nopImp4B => some [some 0x4B]
  | .jmpAbs o1 o2 => some [some 0x4C, o1, o2]
  | .eorAbs o1 o2 => some [some 0x4D, o1, o2]
  | .lsrAbs o1 o2 => some [some 0x4E, o1, o2]
  | .bbr4 o1 o2 => some [some 0x4F, o1, o2]
  | .bvc o1 => some [some 0x50, o1]
  | .eorIzy o1 => some [some 0x51, o1]
  | .eorIzp o1 => some [some 0x52, o1]
  | .nopImp53 => some [some 0x53]
  | .nopZpx54 o1 => some [some 0x54, o1]
  | .eorZpx o1 => some [some 0x55, o1]
  | .lsrZpx o1 => some [some 0x56, o1]
  | .rmb5 o1 => some [some 0x57, o1]
  | .cli => some [some 0x58]
  | .eorAby o1 o2 => some [some 0x59, o1, o2]
  | .phy => some [some 0x5A]
  | .nopImp5B => some [some 0x5B]
  | .nopAbs5C o1 o2 => some [some 0x5C, o1, o2]
  | .eorAbx o1 o2 => some [some 0x5D, o1, o2]
  | .lsrAbx o1 o2 => some [some 0x5E, o1, o2]
  | .bbr5 o1 o2 => some [some 0x5F, o1, o2]
  | .rts => some [some 0x60]
  | .adcIzx o1 => some [some 0x61, o1]
  | .nopImm62 o1 => some [some 0x62, o1]
  | .nopImp63 => some [some 0x63]
  | .stzZp o1 => some [some 0x64, o1]
  | .adcZp o1 => some [some 0x65, o1]
  | .rorZp o1 => some [some 0x66, o1]
  | .rmb6 o1 => some [some 0x67, o1]
  | .pla => some [some 0x68]
  | .adcImm o1 => some [some 0x69, o1]
  | .rorAcc => some [some 0x6A]
  | .nopImp6B => some [some 0x6B]
  | .jmpInd o1 o2 => some [some 0x6C, o1, o2]
  | .adcAbs o1 o2 => some [some 0x6D, o1, o2]
  | .rorAbs o1 o2 => some [some 0x6E, o1, o2]
  | .bbr6 o1 o2 => some [some 0x6F, o1, o2]
  | .bvs o1 => some [some 0x70, o1]
  | .adcIzy o1 => some [some 0x71, o1]
  | .adcIzp o1 => some [some 0x72, o1]
  | .nopImp73 => some [some 0x73]
  | .stzZpx o1 => some [some 0x74, o1]
  | .adcZpx o1 => some [some 0x75, o1]
  | .rorZpx o1 => some [some 0x76, o1]
  | .rmb7 o1 => some [some 0x77, o1]
  | .sei => some [some 0x78]
  | .adcAby o1 o2 => some [some 0x79, o1, o2]
  | .ply => some [some 0x7A]
  | .nopImp7B => some [some 0x7B]
  | .jmpIax o1 o2 => some [some 0x7C, o1, o2]
  | .adcAbx o1 o2 => some [some 0x7D, o1, o2]
  | .rorAbx o1 o2 => some [some 0x7E, o1, o2]
  | .bbr7 o1 o2 => some [some 0x7F, o1, o2]
  | .bra o1 => some [some 0x80, o1]
  | .staIzx o1 => some [some 0x81, o1]
  | .nopImm82 o1 => some [some 0x82, o1]
  | .nopImp83 => some [some 0x83]
  | .styZp o1 => some [some 0x84, o1]
  | .staZp o1 => some [some 0x85, o1]
  | .stxZp o1 => some [some 0x86, o1]
  | .smb0 o1 => some [some 0x87, o1]
  | .dey => some [some 0x88]
  | .bitImm o1 => some [some 0x89, o1]
  | .txa => some [some 0x8A]
  | .nopImp8B => some [some 0x8B]
  | .styAbs o1 o2 => some [some 0x8C, o1, o2]
  | .staAbs o1 o2 => some [some 0x8D, o1, o2]
  | .stxAbs o1 o2 => some [some 0x8E, o1, o2]
  | .bbs0 o1 o2 => some [some 0x8F, o1, o2]
  | .bcc o1 => some [some 0x90, o1]
  | .staIzy o1 => some [some 0x91, o1]
  | .staIzp o1 => some [some 0x92, o1]
  | .nopImp93 => some [some 0x93]
  | .styZpx o1 => some [some 0x94, o1]
  | .staZpx o1 => some [some 0x95, o1]
  | .stxZpy o1 => some [some 0x96, o1]
  | .smb1 o1 => some [some 0x97, o1]
  | .tya => some [some 0x98]
  | .staAby o1 o2 => some [some 0x99, o1, o2]
  | .txs => some [some 0x9A]
  | .nopImp9B => some [some 0x9B]
  | .stzAbs o1 o2 => some [some 0x9C, o1, o2]
  | .staAbx o1 o2 => some [some 0x9D, o1, o2]
  | .stzAbx o1 o2 => some [some 0x9E, o1, o2]
  | .bbs1 o1 o2 => some [some 0x9F, o1, o2]
  | .ldyImm o1 => some [some 0xA0, o1]
  | .ldaIzx o1 => some [some 0xA1, o1]
  | .ldxImm o1 => some [some 0xA2, o1]
  | .nopImpA3 => some [some 0xA3]
  | .ldyZp o1 => some [some 0xA4, o1]
  | .ldaZp o1 => some [some 0xA5, o1]
  | .ldxZp o1 => some [some 0xA6, o1]
  | .smb2 o1 => some [some 0xA7, o1]
  | .tay => some [some 0xA8]
  | .ldaImm o1 => some [some 0xA9, o1]
  | .tax => some [some 0xAA]
  | .nopImpAB => some [some 0xAB]
  | .ldyAbs o1 o2 => some [some 0xAC, o1, o2]
  | .ldaAbs o1 o2 => some [some 0xAD, o1, o2]
  | .ldxAbs o1 o2 => some [some 0xAE, o1, o2]
  | .bbs2 o1 o2 => some [some 0xAF, o1, o2]
  | .bcs o1 => some [some 0xB0, o1]
  | .ldaIzy o1 => some [some 0xB1, o1]
  | .ldaIzp o1 => some [some 0xB2, o1]
  | .nopImpB3 => some [some 0xB3]
  | .ldyZpx o1 => some [some 0xB4, o1]
  | .ldaZpx o1 => some [some 0xB5, o1]
  | .ldxZpy o1 => some [some 0xB6, o1]
  | .smb3 o1 => some [some 0xB7, o1]
  | .clv => some [some 0xB8]
  | .ldaAby o1 o2 => some [some 0xB9, o1, o2]
  | .tsx => some [some 0xBA]
  | .nopImpBB => some [some 0xBB]
  | .ldyAbx o1 o2 => some [some 0xBC, o1, o2]
  | .ldaAbx o1 o2 => some [some 0xBD, o1, o2]
  | .ldxAby o1 o2 => some [some 0xBE, o1, o2]
  | .bbs3 o1 o2 => some [some 0xBF, o1, o2]
  | .cpyImm o1 => some [some 0xC0, o1]
  | .cmpIzx o1 => some [some 0xC1, o1]
  | .nopImmC2 o1 => some [some 0xC2, o1]
  | .nopImpC3 => some [some 0xC3]
  | .cpyZp o1 => some [some 0xC4, o1]
  | .cmpZp o1 => some [some 0xC5, o1]
  | .decZp o1 => some [some 0xC6, o1]
  | .smb4 o1 => some [some 0xC7, o1]
  | .iny => some [some 0xC8]
  | .cmpImm o1 => some [some 0xC9, o1]
  | .dex => some [some 0xCA]
  | .wai => some [some 0xCB]
  | .cpyAbs o1 o2 => some [some 0xCC, o1, o2]
  | .cmpAbs o1 o2 => some [some 0xCD, o1, o2]
  | .decAbs o1 o2 => some [some 0xCE, o1, o2]
  | .bbs4 o1 o2 => some [some 0xCF, o1, o2]
  | .bne o1 => some [some 0xD0, o1]
  | .cmpIzy o1 => some [some 0xD1, o1]
  | .cmpIzp o1 => some [some 0xD2, o1]
  | .nopImpD3 => some [some 0xD3]
  | .nopZpxD4 o1 => some [some 0xD4, o1]
  | .cmpZpx o1 => some [some 0xD5, o1]
  | .decZpx o1 => some [some 0xD6, o1]
  | .smb5 o1 => some [some 0xD7, o1]
  | .cld => some [some 0xD8]
  | .cmpAby o1 o2 => some [some 0xD9, o1, o2]
  | .phx => some [some 0xDA]
  | .stp => some [some 0xDB]
  | .nopAbsDC o1 o2 => some [some 0xDC, o1, o2]
  | .cmpAbx o1 o2 => some [some 0xDD, o1, o2]
  | .decAbx o1 o2 => some [some 0xDE, o1, o2]
  | .bbs5 o1 o2 => some [some 0xDF, o1, o2]
  | .cpxImm o1 => some [some 0xE0, o1]
  | .sbcIzx o1 => some [some 0xE1, o1]
  | .nopImmE2 o1 => some [some 0xE2, o1]
  | .nopImpE3 => some [some 0xE3]
  | .cpxZp o1 => some [some 0xE4, o1]
  | .sbcZp o1 => some [some 0xE5, o1]
  | .incZp o1 => some [some 0xE6, o1]
  | .smb6 o1 => some [some 0xE7, o1]
  | .inx => some [some 0xE8]
  | .sbcImm o1 => some [some 0xE9, o1]
  | .nop => some [some 0xEA]
  | .nopImpEB => some [some 0xEB]
  | .cpxAbs o1 o2 => some [some 0xEC, o1, o2]
  | .sbcAbs o1 o2 => some [some 0xED, o1, o2]
  | .incAbs o1 o2 => some [some 0xEE, o1, o2]
  | .bbs6 o1 o2 => some [some 0xEF, o1, o2]
  | .beq o1 => some [some 0xF0, o1]
  | .sbcIzy o1 => some [some 0xF1, o1]
  | .sbcIzp o1 => some [some 0xF2, o1]
  | .nopImpF3 => some [some 0xF3]
  | .nopZpxF4 o1 => some [some 0xF4, o1]
  | .sbcZpx o1 => some [some 0xF5, o1]
  | .incZpx o1 => some [some 0xF6, o1]
  | .smb7 o1 => some [some 0xF7, o1]
  | .sed => some [some 0xF8]
  | .sbcAby o1 o2 => some [some 0xF9, o1, o2]
  | .plx => some [some 0xFA]
  | .nopImpFB => some [some 0xFB]
  | .nopAbsFC o1 o2 => some [some 0xFC, o1, o2]
  | .sbcAbx o1 o2 => some [some 0xFD, o1, o2]
  | .incAbx o1 o2 => some [some 0xFE, o1, o2]
  | .bbs7 o1 o2 => some [some 0xFF, o1, o2]
  | .retireUnknown => some [none]
  | .sampleFetch _ _ _ => none
  | .sampleWrite _ _ => none
  | .sampleReadOperand1 _ _ => none
  | .sampleReadOperand2 _ _ => none
  | .sampleReadCallDummy _ _ => none
  | .sampleReadCallOperand2 _ _ => none
  | .sampleReadMemoryRead _ _ => none
  | .endOfCapture => none
  | .retireInt _ _ _ => none

/-- Line levels that show a data value: an unknown byte as eight indeterminate lines (R61). -/
def Lines.ofValue : ByteX → Lines
  | none => ⟨.indeterminate, .indeterminate, .indeterminate, .indeterminate, .indeterminate, .indeterminate, .indeterminate,
      .indeterminate⟩
  | some b => ⟨.ofBit (b.getLsbD 7), .ofBit (b.getLsbD 6), .ofBit (b.getLsbD 5), .ofBit (b.getLsbD 4), .ofBit (b.getLsbD 3),
      .ofBit (b.getLsbD 2), .ofBit (b.getLsbD 1), .ofBit (b.getLsbD 0)⟩

/-- A sample that carries a data value, with known control lines. -/
def mkSample (d : ByteX) (rw sync : Bool) (ts : Nat) : Sample :=
  ⟨Lines.ofValue d, .ofBit rw, .ofBit sync, ts⟩

/-- The input that selects a sample row or END (R62). The opcode rows and the run-time retire classes are no inputs. -/
def encodeInput : Instr → Option Input
  | .sampleFetch d rw ts => some (.sample (mkSample d rw true ts))
  | .sampleWrite d ts => some (.sample (mkSample d false false ts))
  | .sampleReadOperand1 d ts => some (.sample (mkSample d true false ts))
  | .sampleReadOperand2 d ts => some (.sample (mkSample d true false ts))
  | .sampleReadCallDummy d ts => some (.sample (mkSample d true false ts))
  | .sampleReadCallOperand2 d ts => some (.sample (mkSample d true false ts))
  | .sampleReadMemoryRead d ts => some (.sample (mkSample d true false ts))
  | .endOfCapture => some .endOfCapture
  | _ => none

end Sys2Proof
end

