-- ==== Sys2Proof/Machine/State.lean ====
section
/-! DEFINITION. The state (spec/10_state.md). `Regs` holds exactly the registers of R10. `State` adds the host's side of
the interface, which is not state of IDSM (R31): Host.Core's step has neither input nor output, so the inputs delivered and
the events emitted stand beside the registers (DESIGN CHOICE, log 1). -/

namespace Sys2Proof.Machine

open Sys2Proof

/-- The registers of IDSM, and no other mutable state (R10). -/
structure Regs where
  /-- PHASE, the current cycle phase (R10, R34). -/
  phase : Phase
  /-- SEEN, 1 once a fetch sample has been processed (R12). -/
  seen : Bool
  /-- IR, the data value of the most recent fetch sample (R13). -/
  ir : ByteX
  /-- OP1, the first operand byte, X when none was captured (R14). -/
  op1 : ByteX
  /-- OP2, the second operand byte (R14). -/
  op2 : ByteX
  /-- NOPS, operand bytes captured since the last fetch (R15). -/
  nops : Nat
  /-- REM, operand bytes still to be captured (R16). -/
  rem : Nat
  /-- WCNT, write samples since the last fetch, without bound (R17). -/
  wcnt : Nat
  /-- NCYC, samples of the current span, without bound (R18). -/
  ncyc : Nat
  /-- FETCH_TS, timestamp of the most recent fetch sample (R19). -/
  fetchTs : Nat
  /-- LAST_TS, timestamp of the most recent sample, or none (R20). -/
  lastTs : Option Nat
  /-- PC, the last-known program counter (R21, R22). -/
  pc : WordX
  /-- NB[0], the MemoryRead byte two before the last (R23). -/
  nb0 : ByteX
  /-- NB[1], the MemoryRead byte before the last (R23). -/
  nb1 : ByteX
  /-- NB[2], the last MemoryRead byte (R23). -/
  nb2 : ByteX
  /-- DONE, 1 after END (R26). -/
  done : Bool
deriving DecidableEq, Repr

/-- An instruction event (R183). `start` and `stop` are the ends of the half-open span `[start, stop)` (R180). -/
structure InstrEvent where
  start : Nat
  stop : Nat
  kind : Kind
  pc : WordX
  ir : ByteX
  op1 : ByteX
  op2 : ByteX
  tgt : WordX
  text : Text
deriving DecidableEq, Repr

/-- The three event kinds (R180). -/
inductive Event where
  /-- `Data(start, stop, d)` with its text (R181). -/
  | data (start stop : Nat) (d : ByteX) (text : Text)
  /-- `PhaseEv(start, stop, phase)` with its text (R182). -/
  | phaseEv (start stop : Nat) (phase : Phase) (text : Text)
  /-- `Instr` (R183). -/
  | instr (e : InstrEvent)
deriving DecidableEq, Repr

/-- What the emulator is offered at one retire (R201). -/
structure Notice where
  kind : Kind
  cls : RunClass
  ir : ByteX
  mnemonic : Text
  mode : Mode
  early : Bool
  xfer : Option Text
  op1 : ByteX
  op2 : ByteX
  nops : Nat
  wcnt : Nat
  ncyc : Nat
  nb0 : ByteX
  nb1 : ByteX
  nb2 : ByteX
  oldPc : WordX
  newPc : WordX
deriving DecidableEq, Repr

/-- The state: the registers of IDSM and the host's side of the interface. -/
structure State extends Regs where
  /-- Inputs the host has delivered and the block has not yet taken, first first (R262). Not state of IDSM. -/
  pending : List Input
  /-- The output event sequence, in emission order (R180). No rule reads it (R31). -/
  events : List Event
  /-- The notifications offered to the emulator, in order of retires (R201). No rule reads them (R200). -/
  notices : List Notice
  /-- The argument `end_ts` of the retire being done (R110), latched by the sample or END step that calls it. -/
  endTs : Nat
deriving DecidableEq, Repr

/-- No run-time fault exists: "IDSM has no run-time exception, trap or fault" (R220). The type has no constructor, so that
no step can answer one. -/
inductive Fault where
deriving DecidableEq, Repr

/-- Why the model gives an input no meaning: the closed list of R222, and the arm of an instruction without a meaning. -/
inductive Refusal where
  /-- An instruction of the table that has no meaning yet. No arm of `exec` is left with it. Safe: nothing follows. -/
  | notModelled (mnemonic : String)
  /-- Code 1 AfterEnd: a sample or END when DONE = 1 (R90 item 1, R186). Raised by every sample row and by END. Safe. -/
  | afterEnd
  /-- Code 2 ControlIndeterminate: `rw` or `sync` of a sample is not 0 or 1 (R90 item 2). Raised by the step. Safe. -/
  | controlIndeterminate
  /-- Code 3 TimestampOrder: LAST_TS is not none and `ts <= LAST_TS` (R90 item 3). Raised by every sample row. Safe. -/
  | timestampOrder
  /-- Code 4 TableNotTotal: the tables offered at construction are not total or break R72 (R221). Raised by
  `construct`. Safe. -/
  | tableNotTotal
deriving DecidableEq, Repr

/-- The state right after reset with a given PC_RESET (R29, R250). -/
def State.resetWith (pcReset : WordX) : State where
  phase := .memoryRead
  seen := false
  ir := none
  op1 := none
  op2 := none
  nops := 0
  rem := 0
  wcnt := 0
  ncyc := 0
  fetchTs := 0
  lastTs := none
  pc := pcReset
  nb0 := none
  nb1 := none
  nb2 := none
  done := false
  pending := []
  events := []
  notices := []
  endTs := 0

/-- The machine right after reset, with the PC_RESET of the configuration (R250, log 2). -/
def State.reset : State := State.resetWith Config.pcReset

end Sys2Proof.Machine
end

