-- ==== Sys2Proof/Machine/Operands.lean ====
section
/-! DEFINITION. Operand assembly (spec/30_encoding.md R64): the two halves of the accumulator, the operand pair, the signed
displacements, the display target. X in any input gives X (R120; 00_scope.md section 5). -/

namespace Sys2Proof.Machine

open Sys2Proof

/-- A function of two values, X when either is X. -/
def map2X {α β γ : Type} (f : α → β → γ) : Option α → Option β → Option γ
  | some a, some b => some (f a b)
  | _, _ => none

/-- `(high << 8) | low` (R25, R46, R64). -/
def joinBytes (high low : Byte) : Word := high ++ low

/-- `sext_8(b)` as a 16-bit value: `b` if `b < 128`, else `b - 256`. -/
def sext8 (b : Byte) : Word := b.signExtend 16

/-- HI16, the last two MemoryRead bytes (R25). -/
def hi16 (r : Regs) : WordX := map2X joinBytes r.nb2 r.nb1

/-- LO16, the second- and third-to-last MemoryRead bytes (R25). -/
def lo16 (r : Regs) : WordX := map2X joinBytes r.nb1 r.nb0

/-- ADDR16, the two operand bytes as an address (R64). -/
def addr16 (op1 op2 : ByteX) : WordX := map2X joinBytes op2 op1

/-- `(PC + LEN) mod 65536`, X if PC is X (R118). -/
def advance (pc : WordX) (len : Nat) : WordX := pc.map fun p => p + BitVec.ofNat 16 len

/-- `(PC + base + sext_8(disp)) mod 65536`, X if PC or the displacement is X (R116, R121). -/
def displace (pc : WordX) (base : Nat) (disp : ByteX) : WordX :=
  map2X (fun p d => p + BitVec.ofNat 16 base + sext8 d) pc disp

/-- The display target (R121): the text of modes REL and ZPR shows it, whether or not the branch was taken. -/
def displayTarget (P : Params) (pc : WordX) (ir op1 op2 : ByteX) : WordX :=
  match ir with
  | none => none
  | some b =>
    match (P.optable b).mode with
    | .rel => displace pc 2 op1
    | .zpr => displace pc 3 op2
    | _ => none

end Sys2Proof.Machine
end

