-- ==== Sys2Proof/Machine/Flags.lean ====
section
/-! DEFINITION. IDSM has no condition codes (spec/10_state.md R26); its one-bit facts are the tests of this file: the
interrupt test (R112), the call test (40_classifier.md section 4), the taken-branch test (R116) and the admission checks
(R90). -/

namespace Sys2Proof.Machine

open Sys2Proof

/-- The interrupt test (R112): exactly three writes, and a known opcode byte that is not 0x00. -/
def isInterrupt (wcnt : Nat) (ir : ByteX) : Bool :=
  match ir with
  | none => false
  | some b => wcnt == 3 && b != 0x00#8

/-- The taken-branch test (R116): the span has more than two samples. -/
def isTaken (ncyc : Nat) : Bool := decide (2 < ncyc)

/-- CALL: the opcode byte is known and its class is JSR (R95, R101). False for X (R77). -/
def isCall (P : Params) (ir : ByteX) : Bool :=
  match ir with
  | none => false
  | some b => decide ((P.optable b).cls = .jsr)

/-- The order check (R90 item 3): LAST_TS is none, or the timestamp exceeds it. -/
def inOrder (lastTs : Option Nat) (ts : Nat) : Bool :=
  match lastTs with
  | none => true
  | some t => decide (t < ts)

/-- Admission of an input (R90, R186), the checks in the order of R225: the lowest code that holds is reported. -/
def admission (r : Regs) : Input → Option Refusal
  | .endOfCapture => if r.done then some .afterEnd else none
  | .sample m =>
    if r.done then some .afterEnd
    else if m.rw = .indeterminate ∨ m.sync = .indeterminate then some .controlIndeterminate
    else if inOrder r.lastTs m.ts then none
    else some .timestampOrder

end Sys2Proof.Machine
end

