-- ==== Sys2Proof/Machine/Text.lean ====
section
/-! DEFINITION. Output texts (spec/44_output_format.md): number formatting (R185), templates (R66, R183), phase names
(R182), categories (R184). -/

namespace Sys2Proof.Machine

open Sys2Proof

/-- A hexadecimal digit, uppercase (R185). -/
def hexDigit (n : BitVec 4) : Char := (txt "0123456789ABCDEF").getD n.toNat '?'

/-- `hex2` (R185): two digits, high nibble first, or PH_BYTE for X. -/
def hex2 (P : Params) : ByteX → Text
  | none => P.phByte
  | some b => [hexDigit (b.extractLsb' 4 4), hexDigit (b.extractLsb' 0 4)]

/-- `hex4` (R185): four digits, high nibble first, or PH_WORD for X. -/
def hex4 (P : Params) : WordX → Text
  | none => P.phWord
  | some w => [hexDigit (w.extractLsb' 12 4), hexDigit (w.extractLsb' 8 4), hexDigit (w.extractLsb' 4 4),
      hexDigit (w.extractLsb' 0 4)]

/-- The text that fills one piece of a template (R183). -/
def pieceText (P : Params) (mn : Text) (op1 op2 : ByteX) (tgt : WordX) : Piece → Text
  | .mn => mn
  | .o1 => hex2 P op1
  | .o2 => hex2 P op2
  | .tgt => hex4 P tgt
  | .lit c => [c]

/-- A template with its holes filled (R183). -/
def fillTemplate (P : Params) (mn : Text) (op1 op2 : ByteX) (tgt : WordX) (template : List Piece) : Text :=
  (template.map (pieceText P mn op1 op2 tgt)).flatten

/-- The mnemonic an instruction event shows (R183): INT_MARKER for kind INT, else that of IR (R77 for X). -/
def shownMnemonic (P : Params) (kind : Kind) (ir : ByteX) : Text :=
  match kind with
  | .int => P.intMarker
  | .insn => mnemX P ir

/-- The text of an instruction event (R183): old PC, one space, the filled template of `MODE(IR)`. -/
def instrText (P : Params) (kind : Kind) (pc : WordX) (ir op1 op2 : ByteX) (tgt : WordX) : Text :=
  hex4 P pc ++ ' ' :: fillTemplate P (shownMnemonic P kind ir) op1 op2 tgt (P.modetable (modeX P ir)).template

/-- The name of a phase, the text of its events (R182). -/
def phaseName : Phase → Text
  | .fetch => txt "Fetch"
  | .operand1 => txt "Operand1"
  | .operand2 => txt "Operand2"
  | .memoryRead => txt "MemoryRead"
  | .memoryWrite => txt "MemoryWrite"

/-- The category number of an event, 0 to 6 (R184): a phase's category is its number plus one. -/
def category : Event → Nat
  | .data .. => 0
  | .phaseEv _ _ p _ => (phaseNumber p).toNat + 1
  | .instr _ => 6

end Sys2Proof.Machine
end

