-- ==== Sys2Proof/Machine/Ops.lean ====
section
/-! DEFINITION. The named operations over the registers: the accumulator (spec/10_state.md R24), emission
(44_output_format.md R180 to R183), the retire of a span (41_retire_pc.md R110 to R119), and the common effects of a
sample (40_classifier.md R98). IDSM takes no exception (R220) and returns from none (R228): the entries and returns of the
observed CPU are the classes BRK, INT and RTI of the retire. -/

namespace Sys2Proof.Machine

open Sys2Proof

/-- The answer of a meaning. -/
abbrev Result := Host.Outcome State Fault Refusal

/-- Go on from a next state. A stop stays as it is. -/
def andThen (o : Result) (k : State → Result) : Result :=
  match o with
  | .next s => k s
  | .fault f => .fault f
  | .refused r => .refused r

/-! ## Accumulator and events -/

/-- `fold(d)` (R24): the lanes shift, the new byte enters NB[2]. -/
def foldByte (d : ByteX) (s : State) : State := { s with nb0 := s.nb1, nb1 := s.nb2, nb2 := d }

/-- `emit E` (R180): the event is appended at the end. -/
def emit (e : Event) (s : State) : State := { s with events := s.events ++ [e] }

/-- The two events of a sample (R181, R182, R98 c): Data, then PhaseEv with the new PHASE. -/
def emitSample (P : Params) (d : ByteX) (ts : Nat) (s : State) : State :=
  emit (.phaseEv ts (ts + 1) s.phase (phaseName s.phase)) (emit (.data ts (ts + 1) d (hex2 P d)) s)

/-! ## The retire of a span -/

/-- The new program counter by class (R113): R114, R115, R116, R117, R118, R119. -/
def newPc (P : Params) (cls : RunClass) (ir op1 op2 : ByteX) (r : Regs) : WordX :=
  match cls with
  | .table .rti => hi16 r
  | .table .brk => hi16 r
  | .table .jmpind => hi16 r
  | .int => hi16 r
  | .table .jsr => addr16 op1 op2
  | .table .jmpabs => addr16 op1 op2
  | .table .branch => if isTaken r.ncyc then displace r.pc 2 op1 else advance r.pc (lenX P ir)
  | .table .rts => (lo16 r).map (· + 1#16)
  | .table .seq => advance r.pc (lenX P ir)
  | .unknown => none

/-- The instruction event of the span that is ending (R183). -/
def instrEvent (P : Params) (kind : Kind) (ir op1 op2 : ByteX) (s : State) : InstrEvent :=
  let tgt := displayTarget P s.pc ir op1 op2
  { start := s.fetchTs, stop := s.endTs, kind := kind, pc := s.pc, ir := ir, op1 := op1, op2 := op2, tgt := tgt,
    text := instrText P kind s.pc ir op1 op2 tgt }

/-- What the emulator is offered at this retire (R201). For IR = X the mnemonic, mode and early-write flag are those of R77,
which names no transfer-function reference for the missing descriptor: none is offered (DESIGN CHOICE, log 16). -/
def noticeOf (P : Params) (kind : Kind) (cls : RunClass) (ir op1 op2 : ByteX) (r : Regs) : Notice :=
  { kind := kind, cls := cls, ir := ir, mnemonic := mnemX P ir, mode := modeX P ir, early := earlyX P ir,
    xfer := ir.bind fun b => (P.optable b).xfer, op1 := op1, op2 := op2, nops := r.nops, wcnt := r.wcnt, ncyc := r.ncyc,
    nb0 := r.nb0, nb1 := r.nb1, nb2 := r.nb2, oldPc := r.pc, newPc := newPc P cls ir op1 op2 r }

/-- Notify the emulator, if one is attached (R110, R201). -/
def notify (P : Params) (n : Notice) (s : State) : State :=
  if P.emuEnable then { s with notices := s.notices ++ [n] } else s

/-- The end of a retire, once its kind and class are chosen (R110, R111): event with the old PC, notification, then PC. -/
def finishRetire (P : Params) (kind : Kind) (cls : RunClass) (ir op1 op2 : ByteX) (s : State) : State :=
  let s' := notify P (noticeOf P kind cls ir op1 op2 s.toRegs) (emit (.instr (instrEvent P kind ir op1 op2 s)) s)
  { s' with pc := newPc P cls ir op1 op2 s.toRegs }

/-- The retire of a reclassified interrupt (R166): kind INT, class INT, whatever `CLASS(IR)` is. -/
def retireAsInterrupt (P : Params) (b : Byte) (op1 op2 : ByteX) (s : State) : State :=
  finishRetire P .int .int (some b) op1 op2 s

/-- The retire of the row of opcode byte `b` (R110): the interrupt test first (R112, R122), then the update rule of the class
that OPTABLE gives `b` (R7, R113). -/
def retireRow (P : Params) (b : Byte) (op1 op2 : ByteX) (s : State) : State :=
  if isInterrupt s.wcnt (some b) then retireAsInterrupt P b op1 op2 s
  else finishRetire P .insn (.table (P.optable b).cls) (some b) op1 op2 s

/-- The retire of an unknown opcode (R167, R119): never an interrupt, PC becomes X. -/
def retireAsUnknown (P : Params) (op1 op2 : ByteX) (s : State) : State :=
  finishRetire P .insn .unknown none op1 op2 s

/-- The end of the span flushed at END: LAST_TS + 1 (R186). LAST_TS is none with SEEN = 1 in no state a run reaches (R27 e);
there the end is FETCH_TS + 1 (DESIGN CHOICE, log 6). -/
def flushEnd (r : Regs) : Nat := r.lastTs.getD r.fetchTs + 1

/-! ## The sample steps -/

/-- A sample is admitted only when DONE = 0 and its timestamp is in order (R90 items 1 and 3, in the order of R225).
Item 2, the control lines, is checked where the sample is decoded. -/
def guardSample (ts : Nat) (s : State) (k : Result) : Result :=
  if s.done then .refused .afterEnd
  else if inOrder s.lastTs ts then k
  else .refused .timestampOrder

/-- The registers a FETCH writes after the retire (R91), then the sample's events. -/
def loadFetch (P : Params) (d : ByteX) (ts : Nat) (s : State) : State :=
  emitSample P d ts
    { s with
      ir := d
      rem := lenX P d - 1
      wcnt := 0
      phase := .fetch
      op1 := none
      op2 := none
      nops := 0
      fetchTs := ts
      ncyc := 1
      seen := true
      lastTs := some ts }

/-- The common effects of a sample that is no FETCH (R98): NCYC and LAST_TS, PHASE, then the sample's events. -/
def countSample (P : Params) (p : Phase) (d : ByteX) (ts : Nat) (s : State) : State :=
  emitSample P d ts { s with phase := p, ncyc := s.ncyc + 1, lastTs := some ts }

/-- WRITE (R92). -/
def writeSample (P : Params) (d : ByteX) (ts : Nat) (s : State) : State :=
  countSample P .memoryWrite d ts { s with wcnt := s.wcnt + 1 }

/-- READ to Operand1 (R93). -/
def readOperand1 (P : Params) (d : ByteX) (ts : Nat) (s : State) : State :=
  countSample P .operand1 d ts { s with op1 := d, nops := 1, rem := s.rem - 1 }

/-- READ to Operand2 (R94, R96). -/
def readOperand2 (P : Params) (d : ByteX) (ts : Nat) (s : State) : State :=
  countSample P .operand2 d ts { s with op2 := d, nops := 2, rem := s.rem - 1 }

/-- READ to MemoryRead, with the fold (R95, R97). -/
def readMemory (P : Params) (d : ByteX) (ts : Nat) (s : State) : State :=
  countSample P .memoryRead d ts (foldByte d s)

end Sys2Proof.Machine
end

