-- ==== Sys2Proof/Machine/Modes.lean ====
section
/-! DEFINITION. What an opcode row does at its retire, once per instruction format (spec/30_encoding.md R63). Every fact of the
opcode, its mnemonic, mode, length and class, comes from OPTABLE and MODETABLE and from nowhere else (R7), so the thirteen
SEQ modes (spec/42_sequential_modes.md) and the control-flow classes (spec/43_control_flow.md) need no shape of their own.
An operand the format does not carry is read from its register, as the retire does (R110; log 7). -/

namespace Sys2Proof.Machine

open Sys2Proof

/-- Format F1, the opcode byte alone (R63): the row of `b` is retired. -/
def retireF1 (b : Byte) (s : State) : Result := .next (retireRow defaultParams b s.op1 s.op2 s)

/-- Format F2, opcode and operand 1 (R63). -/
def retireF2 (b : Byte) (o1 : ByteX) (s : State) : Result := .next (retireRow defaultParams b o1 s.op2 s)

/-- Format F3, opcode, operand 1 and operand 2 (R63). -/
def retireF3 (b : Byte) (o1 o2 : ByteX) (s : State) : Result := .next (retireRow defaultParams b o1 o2 s)

end Sys2Proof.Machine
end

