-- ==== Sys2Proof/Machine/Absolute.lean ====
section
/-! DEFINITION. The meanings of the SEQ rows of modes ABS, ABX, ABY (spec/42_sequential_modes.md R139, R140, R141): the retire of a span whose
opcode byte is the row's. -/

namespace Sys2Proof.Machine

open Sys2Proof

/-- TSB 0x0C, mode ABS (R139). -/
def execTsbAbs (o1 o2 : ByteX) (s : State) : Result := retireF3 0x0C o1 o2 s

/-- ORA 0x0D, mode ABS (R139). -/
def execOraAbs (o1 o2 : ByteX) (s : State) : Result := retireF3 0x0D o1 o2 s

/-- ASL 0x0E, mode ABS (R139). -/
def execAslAbs (o1 o2 : ByteX) (s : State) : Result := retireF3 0x0E o1 o2 s

/-- ORA 0x19, mode ABY (R141). -/
def execOraAby (o1 o2 : ByteX) (s : State) : Result := retireF3 0x19 o1 o2 s

/-- TRB 0x1C, mode ABS (R139). -/
def execTrbAbs (o1 o2 : ByteX) (s : State) : Result := retireF3 0x1C o1 o2 s

/-- ORA 0x1D, mode ABX (R140). -/
def execOraAbx (o1 o2 : ByteX) (s : State) : Result := retireF3 0x1D o1 o2 s

/-- ASL 0x1E, mode ABX (R140). -/
def execAslAbx (o1 o2 : ByteX) (s : State) : Result := retireF3 0x1E o1 o2 s

/-- BIT 0x2C, mode ABS (R139). -/
def execBitAbs (o1 o2 : ByteX) (s : State) : Result := retireF3 0x2C o1 o2 s

/-- AND 0x2D, mode ABS (R139). -/
def execAndAbs (o1 o2 : ByteX) (s : State) : Result := retireF3 0x2D o1 o2 s

/-- ROL 0x2E, mode ABS (R139). -/
def execRolAbs (o1 o2 : ByteX) (s : State) : Result := retireF3 0x2E o1 o2 s

/-- AND 0x39, mode ABY (R141). -/
def execAndAby (o1 o2 : ByteX) (s : State) : Result := retireF3 0x39 o1 o2 s

/-- BIT 0x3C, mode ABX (R140). -/
def execBitAbx (o1 o2 : ByteX) (s : State) : Result := retireF3 0x3C o1 o2 s

/-- AND 0x3D, mode ABX (R140). -/
def execAndAbx (o1 o2 : ByteX) (s : State) : Result := retireF3 0x3D o1 o2 s

/-- ROL 0x3E, mode ABX (R140). -/
def execRolAbx (o1 o2 : ByteX) (s : State) : Result := retireF3 0x3E o1 o2 s

/-- EOR 0x4D, mode ABS (R139). -/
def execEorAbs (o1 o2 : ByteX) (s : State) : Result := retireF3 0x4D o1 o2 s

/-- LSR 0x4E, mode ABS (R139). -/
def execLsrAbs (o1 o2 : ByteX) (s : State) : Result := retireF3 0x4E o1 o2 s

/-- EOR 0x59, mode ABY (R141). -/
def execEorAby (o1 o2 : ByteX) (s : State) : Result := retireF3 0x59 o1 o2 s

/-- NOP 0x5C, mode ABS (R139), reserved (R143). -/
def execNopAbs5C (o1 o2 : ByteX) (s : State) : Result := retireF3 0x5C o1 o2 s

/-- EOR 0x5D, mode ABX (R140). -/
def execEorAbx (o1 o2 : ByteX) (s : State) : Result := retireF3 0x5D o1 o2 s

/-- LSR 0x5E, mode ABX (R140). -/
def execLsrAbx (o1 o2 : ByteX) (s : State) : Result := retireF3 0x5E o1 o2 s

/-- ADC 0x6D, mode ABS (R139). -/
def execAdcAbs (o1 o2 : ByteX) (s : State) : Result := retireF3 0x6D o1 o2 s

/-- ROR 0x6E, mode ABS (R139). -/
def execRorAbs (o1 o2 : ByteX) (s : State) : Result := retireF3 0x6E o1 o2 s

/-- ADC 0x79, mode ABY (R141). -/
def execAdcAby (o1 o2 : ByteX) (s : State) : Result := retireF3 0x79 o1 o2 s

/-- ADC 0x7D, mode ABX (R140). -/
def execAdcAbx (o1 o2 : ByteX) (s : State) : Result := retireF3 0x7D o1 o2 s

/-- ROR 0x7E, mode ABX (R140). -/
def execRorAbx (o1 o2 : ByteX) (s : State) : Result := retireF3 0x7E o1 o2 s

/-- STY 0x8C, mode ABS (R139). -/
def execStyAbs (o1 o2 : ByteX) (s : State) : Result := retireF3 0x8C o1 o2 s

/-- STA 0x8D, mode ABS (R139). -/
def execStaAbs (o1 o2 : ByteX) (s : State) : Result := retireF3 0x8D o1 o2 s

/-- STX 0x8E, mode ABS (R139). -/
def execStxAbs (o1 o2 : ByteX) (s : State) : Result := retireF3 0x8E o1 o2 s

/-- STA 0x99, mode ABY (R141). -/
def execStaAby (o1 o2 : ByteX) (s : State) : Result := retireF3 0x99 o1 o2 s

/-- STZ 0x9C, mode ABS (R139). -/
def execStzAbs (o1 o2 : ByteX) (s : State) : Result := retireF3 0x9C o1 o2 s

/-- STA 0x9D, mode ABX (R140). -/
def execStaAbx (o1 o2 : ByteX) (s : State) : Result := retireF3 0x9D o1 o2 s

/-- STZ 0x9E, mode ABX (R140). -/
def execStzAbx (o1 o2 : ByteX) (s : State) : Result := retireF3 0x9E o1 o2 s

/-- LDY 0xAC, mode ABS (R139). -/
def execLdyAbs (o1 o2 : ByteX) (s : State) : Result := retireF3 0xAC o1 o2 s

/-- LDA 0xAD, mode ABS (R139). -/
def execLdaAbs (o1 o2 : ByteX) (s : State) : Result := retireF3 0xAD o1 o2 s

/-- LDX 0xAE, mode ABS (R139). -/
def execLdxAbs (o1 o2 : ByteX) (s : State) : Result := retireF3 0xAE o1 o2 s

/-- LDA 0xB9, mode ABY (R141). -/
def execLdaAby (o1 o2 : ByteX) (s : State) : Result := retireF3 0xB9 o1 o2 s

/-- LDY 0xBC, mode ABX (R140). -/
def execLdyAbx (o1 o2 : ByteX) (s : State) : Result := retireF3 0xBC o1 o2 s

/-- LDA 0xBD, mode ABX (R140). -/
def execLdaAbx (o1 o2 : ByteX) (s : State) : Result := retireF3 0xBD o1 o2 s

/-- LDX 0xBE, mode ABY (R141). -/
def execLdxAby (o1 o2 : ByteX) (s : State) : Result := retireF3 0xBE o1 o2 s

/-- CPY 0xCC, mode ABS (R139). -/
def execCpyAbs (o1 o2 : ByteX) (s : State) : Result := retireF3 0xCC o1 o2 s

/-- CMP 0xCD, mode ABS (R139). -/
def execCmpAbs (o1 o2 : ByteX) (s : State) : Result := retireF3 0xCD o1 o2 s

/-- DEC 0xCE, mode ABS (R139). -/
def execDecAbs (o1 o2 : ByteX) (s : State) : Result := retireF3 0xCE o1 o2 s

/-- CMP 0xD9, mode ABY (R141). -/
def execCmpAby (o1 o2 : ByteX) (s : State) : Result := retireF3 0xD9 o1 o2 s

/-- NOP 0xDC, mode ABS (R139), reserved (R143). -/
def execNopAbsDC (o1 o2 : ByteX) (s : State) : Result := retireF3 0xDC o1 o2 s

/-- CMP 0xDD, mode ABX (R140). -/
def execCmpAbx (o1 o2 : ByteX) (s : State) : Result := retireF3 0xDD o1 o2 s

/-- DEC 0xDE, mode ABX (R140). -/
def execDecAbx (o1 o2 : ByteX) (s : State) : Result := retireF3 0xDE o1 o2 s

/-- CPX 0xEC, mode ABS (R139). -/
def execCpxAbs (o1 o2 : ByteX) (s : State) : Result := retireF3 0xEC o1 o2 s

/-- SBC 0xED, mode ABS (R139). -/
def execSbcAbs (o1 o2 : ByteX) (s : State) : Result := retireF3 0xED o1 o2 s

/-- INC 0xEE, mode ABS (R139). -/
def execIncAbs (o1 o2 : ByteX) (s : State) : Result := retireF3 0xEE o1 o2 s

/-- SBC 0xF9, mode ABY (R141). -/
def execSbcAby (o1 o2 : ByteX) (s : State) : Result := retireF3 0xF9 o1 o2 s

/-- NOP 0xFC, mode ABS (R139), reserved (R143). -/
def execNopAbsFC (o1 o2 : ByteX) (s : State) : Result := retireF3 0xFC o1 o2 s

/-- SBC 0xFD, mode ABX (R140). -/
def execSbcAbx (o1 o2 : ByteX) (s : State) : Result := retireF3 0xFD o1 o2 s

/-- INC 0xFE, mode ABX (R140). -/
def execIncAbx (o1 o2 : ByteX) (s : State) : Result := retireF3 0xFE o1 o2 s

end Sys2Proof.Machine
end

