-- ==== Sys2Proof/Machine/BitBranch.lean ====
section
/-! DEFINITION. The meanings of the rows of mode ZPR, class SEQ (spec/42_sequential_modes.md R142, spec/43_control_flow.md R168): the retire of a span whose
opcode byte is the row's. -/

namespace Sys2Proof.Machine

open Sys2Proof

/-- BBR0 0x0F, mode ZPR (R168). -/
def execBbr0 (o1 o2 : ByteX) (s : State) : Result := retireF3 0x0F o1 o2 s

/-- BBR1 0x1F, mode ZPR (R168). -/
def execBbr1 (o1 o2 : ByteX) (s : State) : Result := retireF3 0x1F o1 o2 s

/-- BBR2 0x2F, mode ZPR (R168). -/
def execBbr2 (o1 o2 : ByteX) (s : State) : Result := retireF3 0x2F o1 o2 s

/-- BBR3 0x3F, mode ZPR (R168). -/
def execBbr3 (o1 o2 : ByteX) (s : State) : Result := retireF3 0x3F o1 o2 s

/-- BBR4 0x4F, mode ZPR (R168). -/
def execBbr4 (o1 o2 : ByteX) (s : State) : Result := retireF3 0x4F o1 o2 s

/-- BBR5 0x5F, mode ZPR (R168). -/
def execBbr5 (o1 o2 : ByteX) (s : State) : Result := retireF3 0x5F o1 o2 s

/-- BBR6 0x6F, mode ZPR (R168). -/
def execBbr6 (o1 o2 : ByteX) (s : State) : Result := retireF3 0x6F o1 o2 s

/-- BBR7 0x7F, mode ZPR (R168). -/
def execBbr7 (o1 o2 : ByteX) (s : State) : Result := retireF3 0x7F o1 o2 s

/-- BBS0 0x8F, mode ZPR (R168). -/
def execBbs0 (o1 o2 : ByteX) (s : State) : Result := retireF3 0x8F o1 o2 s

/-- BBS1 0x9F, mode ZPR (R168). -/
def execBbs1 (o1 o2 : ByteX) (s : State) : Result := retireF3 0x9F o1 o2 s

/-- BBS2 0xAF, mode ZPR (R168). -/
def execBbs2 (o1 o2 : ByteX) (s : State) : Result := retireF3 0xAF o1 o2 s

/-- BBS3 0xBF, mode ZPR (R168). -/
def execBbs3 (o1 o2 : ByteX) (s : State) : Result := retireF3 0xBF o1 o2 s

/-- BBS4 0xCF, mode ZPR (R168). -/
def execBbs4 (o1 o2 : ByteX) (s : State) : Result := retireF3 0xCF o1 o2 s

/-- BBS5 0xDF, mode ZPR (R168). -/
def execBbs5 (o1 o2 : ByteX) (s : State) : Result := retireF3 0xDF o1 o2 s

/-- BBS6 0xEF, mode ZPR (R168). -/
def execBbs6 (o1 o2 : ByteX) (s : State) : Result := retireF3 0xEF o1 o2 s

/-- BBS7 0xFF, mode ZPR (R168). -/
def execBbs7 (o1 o2 : ByteX) (s : State) : Result := retireF3 0xFF o1 o2 s

end Sys2Proof.Machine
end

