-- ==== Sys2Proof/Machine/ControlFlow.lean ====
section
/-! DEFINITION. The meanings of the control-flow rows (spec/43_control_flow.md R150 to R165, R169): the retire of a span whose
opcode byte is the row's. -/

namespace Sys2Proof.Machine

open Sys2Proof

/-- BRK 0x00, mode IMP (R165). -/
def execBrk (s : State) : Result := retireF1 0x00 s

/-- BPL 0x10, mode REL (R154). -/
def execBpl (o1 : ByteX) (s : State) : Result := retireF2 0x10 o1 s

/-- JSR 0x20, mode ABS (R150). -/
def execJsr (o1 o2 : ByteX) (s : State) : Result := retireF3 0x20 o1 o2 s

/-- BMI 0x30, mode REL (R155). -/
def execBmi (o1 : ByteX) (s : State) : Result := retireF2 0x30 o1 s

/-- RTI 0x40, mode IMP (R164). -/
def execRti (s : State) : Result := retireF1 0x40 s

/-- JMP 0x4C, mode ABS (R151). -/
def execJmpAbs (o1 o2 : ByteX) (s : State) : Result := retireF3 0x4C o1 o2 s

/-- BVC 0x50, mode REL (R156). -/
def execBvc (o1 : ByteX) (s : State) : Result := retireF2 0x50 o1 s

/-- RTS 0x60, mode IMP (R163). -/
def execRts (s : State) : Result := retireF1 0x60 s

/-- JMP 0x6C, mode IND (R152). -/
def execJmpInd (o1 o2 : ByteX) (s : State) : Result := retireF3 0x6C o1 o2 s

/-- BVS 0x70, mode REL (R157). -/
def execBvs (o1 : ByteX) (s : State) : Result := retireF2 0x70 o1 s

/-- JMP 0x7C, mode IAX (R153). -/
def execJmpIax (o1 o2 : ByteX) (s : State) : Result := retireF3 0x7C o1 o2 s

/-- BRA 0x80, mode REL (R158). -/
def execBra (o1 : ByteX) (s : State) : Result := retireF2 0x80 o1 s

/-- BCC 0x90, mode REL (R159). -/
def execBcc (o1 : ByteX) (s : State) : Result := retireF2 0x90 o1 s

/-- BCS 0xB0, mode REL (R160). -/
def execBcs (o1 : ByteX) (s : State) : Result := retireF2 0xB0 o1 s

/-- BNE 0xD0, mode REL (R161). -/
def execBne (o1 : ByteX) (s : State) : Result := retireF2 0xD0 o1 s

/-- BEQ 0xF0, mode REL (R162). -/
def execBeq (o1 : ByteX) (s : State) : Result := retireF2 0xF0 o1 s

end Sys2Proof.Machine
end

