-- ==== Sys2Proof/Machine/Immediate.lean ====
section
/-! DEFINITION. The meanings of the SEQ rows of mode IMM (spec/42_sequential_modes.md R132): the retire of a span whose
opcode byte is the row's. -/

namespace Sys2Proof.Machine

open Sys2Proof

/-- NOP 0x02, mode IMM (R132), reserved (R143). -/
def execNopImm02 (o1 : ByteX) (s : State) : Result := retireF2 0x02 o1 s

/-- ORA 0x09, mode IMM (R132). -/
def execOraImm (o1 : ByteX) (s : State) : Result := retireF2 0x09 o1 s

/-- NOP 0x22, mode IMM (R132), reserved (R143). -/
def execNopImm22 (o1 : ByteX) (s : State) : Result := retireF2 0x22 o1 s

/-- AND 0x29, mode IMM (R132). -/
def execAndImm (o1 : ByteX) (s : State) : Result := retireF2 0x29 o1 s

/-- NOP 0x42, mode IMM (R132), reserved (R143). -/
def execNopImm42 (o1 : ByteX) (s : State) : Result := retireF2 0x42 o1 s

/-- EOR 0x49, mode IMM (R132). -/
def execEorImm (o1 : ByteX) (s : State) : Result := retireF2 0x49 o1 s

/-- NOP 0x62, mode IMM (R132), reserved (R143). -/
def execNopImm62 (o1 : ByteX) (s : State) : Result := retireF2 0x62 o1 s

/-- ADC 0x69, mode IMM (R132). -/
def execAdcImm (o1 : ByteX) (s : State) : Result := retireF2 0x69 o1 s

/-- NOP 0x82, mode IMM (R132), reserved (R143). -/
def execNopImm82 (o1 : ByteX) (s : State) : Result := retireF2 0x82 o1 s

/-- BIT 0x89, mode IMM (R132). -/
def execBitImm (o1 : ByteX) (s : State) : Result := retireF2 0x89 o1 s

/-- LDY 0xA0, mode IMM (R132). -/
def execLdyImm (o1 : ByteX) (s : State) : Result := retireF2 0xA0 o1 s

/-- LDX 0xA2, mode IMM (R132). -/
def execLdxImm (o1 : ByteX) (s : State) : Result := retireF2 0xA2 o1 s

/-- LDA 0xA9, mode IMM (R132). -/
def execLdaImm (o1 : ByteX) (s : State) : Result := retireF2 0xA9 o1 s

/-- CPY 0xC0, mode IMM (R132). -/
def execCpyImm (o1 : ByteX) (s : State) : Result := retireF2 0xC0 o1 s

/-- NOP 0xC2, mode IMM (R132), reserved (R143). -/
def execNopImmC2 (o1 : ByteX) (s : State) : Result := retireF2 0xC2 o1 s

/-- CMP 0xC9, mode IMM (R132). -/
def execCmpImm (o1 : ByteX) (s : State) : Result := retireF2 0xC9 o1 s

/-- CPX 0xE0, mode IMM (R132). -/
def execCpxImm (o1 : ByteX) (s : State) : Result := retireF2 0xE0 o1 s

/-- NOP 0xE2, mode IMM (R132), reserved (R143). -/
def execNopImmE2 (o1 : ByteX) (s : State) : Result := retireF2 0xE2 o1 s

/-- SBC 0xE9, mode IMM (R132). -/
def execSbcImm (o1 : ByteX) (s : State) : Result := retireF2 0xE9 o1 s

end Sys2Proof.Machine
end

