-- ==== Sys2Proof/Machine/Implied.lean ====
section
/-! DEFINITION. The meanings of the one-byte SEQ rows: mode IMP (spec/42_sequential_modes.md R130) and mode ACC (R131): the retire of a span whose
opcode byte is the row's. -/

namespace Sys2Proof.Machine

open Sys2Proof

/-- NOP 0x03, mode IMP (R130), reserved (R143). -/
def execNopImp03 (s : State) : Result := retireF1 0x03 s

/-- PHP 0x08, mode IMP (R130). -/
def execPhp (s : State) : Result := retireF1 0x08 s

/-- ASL 0x0A, mode ACC (R131). -/
def execAslAcc (s : State) : Result := retireF1 0x0A s

/-- NOP 0x0B, mode IMP (R130), reserved (R143). -/
def execNopImp0B (s : State) : Result := retireF1 0x0B s

/-- NOP 0x13, mode IMP (R130), reserved (R143). -/
def execNopImp13 (s : State) : Result := retireF1 0x13 s

/-- CLC 0x18, mode IMP (R130). -/
def execClc (s : State) : Result := retireF1 0x18 s

/-- INC 0x1A, mode ACC (R131). -/
def execIncAcc (s : State) : Result := retireF1 0x1A s

/-- NOP 0x1B, mode IMP (R130), reserved (R143). -/
def execNopImp1B (s : State) : Result := retireF1 0x1B s

/-- NOP 0x23, mode IMP (R130), reserved (R143). -/
def execNopImp23 (s : State) : Result := retireF1 0x23 s

/-- PLP 0x28, mode IMP (R130). -/
def execPlp (s : State) : Result := retireF1 0x28 s

/-- ROL 0x2A, mode ACC (R131). -/
def execRolAcc (s : State) : Result := retireF1 0x2A s

/-- NOP 0x2B, mode IMP (R130), reserved (R143). -/
def execNopImp2B (s : State) : Result := retireF1 0x2B s

/-- NOP 0x33, mode IMP (R130), reserved (R143). -/
def execNopImp33 (s : State) : Result := retireF1 0x33 s

/-- SEC 0x38, mode IMP (R130). -/
def execSec (s : State) : Result := retireF1 0x38 s

/-- DEC 0x3A, mode ACC (R131). -/
def execDecAcc (s : State) : Result := retireF1 0x3A s

/-- NOP 0x3B, mode IMP (R130), reserved (R143). -/
def execNopImp3B (s : State) : Result := retireF1 0x3B s

/-- NOP 0x43, mode IMP (R130), reserved (R143). -/
def execNopImp43 (s : State) : Result := retireF1 0x43 s

/-- PHA 0x48, mode IMP (R130). -/
def execPha (s : State) : Result := retireF1 0x48 s

/-- LSR 0x4A, mode ACC (R131). -/
def execLsrAcc (s : State) : Result := retireF1 0x4A s

/-- NOP 0x4B, mode IMP (R130), reserved (R143). -/
def execNopImp4B (s : State) : Result := retireF1 0x4B s

/-- NOP 0x53, mode IMP (R130), reserved (R143). -/
def execNopImp53 (s : State) : Result := retireF1 0x53 s

/-- CLI 0x58, mode IMP (R130). -/
def execCli (s : State) : Result := retireF1 0x58 s

/-- PHY 0x5A, mode IMP (R130). -/
def execPhy (s : State) : Result := retireF1 0x5A s

/-- NOP 0x5B, mode IMP (R130), reserved (R143). -/
def execNopImp5B (s : State) : Result := retireF1 0x5B s

/-- NOP 0x63, mode IMP (R130), reserved (R143). -/
def execNopImp63 (s : State) : Result := retireF1 0x63 s

/-- PLA 0x68, mode IMP (R130). -/
def execPla (s : State) : Result := retireF1 0x68 s

/-- ROR 0x6A, mode ACC (R131). -/
def execRorAcc (s : State) : Result := retireF1 0x6A s

/-- NOP 0x6B, mode IMP (R130), reserved (R143). -/
def execNopImp6B (s : State) : Result := retireF1 0x6B s

/-- NOP 0x73, mode IMP (R130), reserved (R143). -/
def execNopImp73 (s : State) : Result := retireF1 0x73 s

/-- SEI 0x78, mode IMP (R130). -/
def execSei (s : State) : Result := retireF1 0x78 s

/-- PLY 0x7A, mode IMP (R130). -/
def execPly (s : State) : Result := retireF1 0x7A s

/-- NOP 0x7B, mode IMP (R130), reserved (R143). -/
def execNopImp7B (s : State) : Result := retireF1 0x7B s

/-- NOP 0x83, mode IMP (R130), reserved (R143). -/
def execNopImp83 (s : State) : Result := retireF1 0x83 s

/-- DEY 0x88, mode IMP (R130). -/
def execDey (s : State) : Result := retireF1 0x88 s

/-- TXA 0x8A, mode IMP (R130). -/
def execTxa (s : State) : Result := retireF1 0x8A s

/-- NOP 0x8B, mode IMP (R130), reserved (R143). -/
def execNopImp8B (s : State) : Result := retireF1 0x8B s

/-- NOP 0x93, mode IMP (R130), reserved (R143). -/
def execNopImp93 (s : State) : Result := retireF1 0x93 s

/-- TYA 0x98, mode IMP (R130). -/
def execTya (s : State) : Result := retireF1 0x98 s

/-- TXS 0x9A, mode IMP (R130). -/
def execTxs (s : State) : Result := retireF1 0x9A s

/-- NOP 0x9B, mode IMP (R130), reserved (R143). -/
def execNopImp9B (s : State) : Result := retireF1 0x9B s

/-- NOP 0xA3, mode IMP (R130), reserved (R143). -/
def execNopImpA3 (s : State) : Result := retireF1 0xA3 s

/-- TAY 0xA8, mode IMP (R130). -/
def execTay (s : State) : Result := retireF1 0xA8 s

/-- TAX 0xAA, mode IMP (R130). -/
def execTax (s : State) : Result := retireF1 0xAA s

/-- NOP 0xAB, mode IMP (R130), reserved (R143). -/
def execNopImpAB (s : State) : Result := retireF1 0xAB s

/-- NOP 0xB3, mode IMP (R130), reserved (R143). -/
def execNopImpB3 (s : State) : Result := retireF1 0xB3 s

/-- CLV 0xB8, mode IMP (R130). -/
def execClv (s : State) : Result := retireF1 0xB8 s

/-- TSX 0xBA, mode IMP (R130). -/
def execTsx (s : State) : Result := retireF1 0xBA s

/-- NOP 0xBB, mode IMP (R130), reserved (R143). -/
def execNopImpBB (s : State) : Result := retireF1 0xBB s

/-- NOP 0xC3, mode IMP (R130), reserved (R143). -/
def execNopImpC3 (s : State) : Result := retireF1 0xC3 s

/-- INY 0xC8, mode IMP (R130). -/
def execIny (s : State) : Result := retireF1 0xC8 s

/-- DEX 0xCA, mode IMP (R130). -/
def execDex (s : State) : Result := retireF1 0xCA s

/-- WAI 0xCB, mode IMP (R130). -/
def execWai (s : State) : Result := retireF1 0xCB s

/-- NOP 0xD3, mode IMP (R130), reserved (R143). -/
def execNopImpD3 (s : State) : Result := retireF1 0xD3 s

/-- CLD 0xD8, mode IMP (R130). -/
def execCld (s : State) : Result := retireF1 0xD8 s

/-- PHX 0xDA, mode IMP (R130). -/
def execPhx (s : State) : Result := retireF1 0xDA s

/-- STP 0xDB, mode IMP (R130). -/
def execStp (s : State) : Result := retireF1 0xDB s

/-- NOP 0xE3, mode IMP (R130), reserved (R143). -/
def execNopImpE3 (s : State) : Result := retireF1 0xE3 s

/-- INX 0xE8, mode IMP (R130). -/
def execInx (s : State) : Result := retireF1 0xE8 s

/-- NOP 0xEA, mode IMP (R130). -/
def execNop (s : State) : Result := retireF1 0xEA s

/-- NOP 0xEB, mode IMP (R130), reserved (R143). -/
def execNopImpEB (s : State) : Result := retireF1 0xEB s

/-- NOP 0xF3, mode IMP (R130), reserved (R143). -/
def execNopImpF3 (s : State) : Result := retireF1 0xF3 s

/-- SED 0xF8, mode IMP (R130). -/
def execSed (s : State) : Result := retireF1 0xF8 s

/-- PLX 0xFA, mode IMP (R130). -/
def execPlx (s : State) : Result := retireF1 0xFA s

/-- NOP 0xFB, mode IMP (R130), reserved (R143). -/
def execNopImpFB (s : State) : Result := retireF1 0xFB s

end Sys2Proof.Machine
end

