-- ==== Sys2Proof/Machine/Runtime.lean ====
section
/-! DEFINITION. The meanings of the two run-time retire classes that no table row carries (spec/41_retire_pc.md R113,
spec/43_control_flow.md R166, R167). The condition that selects them is tested where the span is retired (Machine/Rows.lean). -/

namespace Sys2Proof.Machine

open Sys2Proof

/-- RETIRE.INT: kind INT, mnemonic INT, the template of `MODE(IR)` and the captured bytes, PC from HI16 (R166, R112, R114). -/
def execRetireInt (ir : Byte) (o1 o2 : ByteX) (s : State) : Result := .next (retireAsInterrupt defaultParams ir o1 o2 s)

/-- RETIRE.UNKNOWN: kind INSN, mnemonic `???`, template IMP, PC becomes X (R167, R77, R119). -/
def execRetireUnknown (s : State) : Result := .next (retireAsUnknown defaultParams s.op1 s.op2 s)

end Sys2Proof.Machine
end

