-- ==== Sys2Proof/Machine/ZeroPage.lean ====
section
/-! DEFINITION. The meanings of the SEQ rows of modes ZP, ZPX, ZPY (spec/42_sequential_modes.md R133, R134, R135): the retire of a span whose
opcode byte is the row's. -/

namespace Sys2Proof.Machine

open Sys2Proof

/-- TSB 0x04, mode ZP (R133). -/
def execTsbZp (o1 : ByteX) (s : State) : Result := retireF2 0x04 o1 s

/-- ORA 0x05, mode ZP (R133). -/
def execOraZp (o1 : ByteX) (s : State) : Result := retireF2 0x05 o1 s

/-- ASL 0x06, mode ZP (R133). -/
def execAslZp (o1 : ByteX) (s : State) : Result := retireF2 0x06 o1 s

/-- RMB0 0x07, mode ZP (R133). -/
def execRmb0 (o1 : ByteX) (s : State) : Result := retireF2 0x07 o1 s

/-- TRB 0x14, mode ZP (R133). -/
def execTrbZp (o1 : ByteX) (s : State) : Result := retireF2 0x14 o1 s

/-- ORA 0x15, mode ZPX (R134). -/
def execOraZpx (o1 : ByteX) (s : State) : Result := retireF2 0x15 o1 s

/-- ASL 0x16, mode ZPX (R134). -/
def execAslZpx (o1 : ByteX) (s : State) : Result := retireF2 0x16 o1 s

/-- RMB1 0x17, mode ZP (R133). -/
def execRmb1 (o1 : ByteX) (s : State) : Result := retireF2 0x17 o1 s

/-- BIT 0x24, mode ZP (R133). -/
def execBitZp (o1 : ByteX) (s : State) : Result := retireF2 0x24 o1 s

/-- AND 0x25, mode ZP (R133). -/
def execAndZp (o1 : ByteX) (s : State) : Result := retireF2 0x25 o1 s

/-- ROL 0x26, mode ZP (R133). -/
def execRolZp (o1 : ByteX) (s : State) : Result := retireF2 0x26 o1 s

/-- RMB2 0x27, mode ZP (R133). -/
def execRmb2 (o1 : ByteX) (s : State) : Result := retireF2 0x27 o1 s

/-- BIT 0x34, mode ZPX (R134). -/
def execBitZpx (o1 : ByteX) (s : State) : Result := retireF2 0x34 o1 s

/-- AND 0x35, mode ZPX (R134). -/
def execAndZpx (o1 : ByteX) (s : State) : Result := retireF2 0x35 o1 s

/-- ROL 0x36, mode ZPX (R134). -/
def execRolZpx (o1 : ByteX) (s : State) : Result := retireF2 0x36 o1 s

/-- RMB3 0x37, mode ZP (R133). -/
def execRmb3 (o1 : ByteX) (s : State) : Result := retireF2 0x37 o1 s

/-- NOP 0x44, mode ZP (R133), reserved (R143). -/
def execNopZp44 (o1 : ByteX) (s : State) : Result := retireF2 0x44 o1 s

/-- EOR 0x45, mode ZP (R133). -/
def execEorZp (o1 : ByteX) (s : State) : Result := retireF2 0x45 o1 s

/-- LSR 0x46, mode ZP (R133). -/
def execLsrZp (o1 : ByteX) (s : State) : Result := retireF2 0x46 o1 s

/-- RMB4 0x47, mode ZP (R133). -/
def execRmb4 (o1 : ByteX) (s : State) : Result := retireF2 0x47 o1 s

/-- NOP 0x54, mode ZPX (R134), reserved (R143). -/
def execNopZpx54 (o1 : ByteX) (s : State) : Result := retireF2 0x54 o1 s

/-- EOR 0x55, mode ZPX (R134). -/
def execEorZpx (o1 : ByteX) (s : State) : Result := retireF2 0x55 o1 s

/-- LSR 0x56, mode ZPX (R134). -/
def execLsrZpx (o1 : ByteX) (s : State) : Result := retireF2 0x56 o1 s

/-- RMB5 0x57, mode ZP (R133). -/
def execRmb5 (o1 : ByteX) (s : State) : Result := retireF2 0x57 o1 s

/-- STZ 0x64, mode ZP (R133). -/
def execStzZp (o1 : ByteX) (s : State) : Result := retireF2 0x64 o1 s

/-- ADC 0x65, mode ZP (R133). -/
def execAdcZp (o1 : ByteX) (s : State) : Result := retireF2 0x65 o1 s

/-- ROR 0x66, mode ZP (R133). -/
def execRorZp (o1 : ByteX) (s : State) : Result := retireF2 0x66 o1 s

/-- RMB6 0x67, mode ZP (R133). -/
def execRmb6 (o1 : ByteX) (s : State) : Result := retireF2 0x67 o1 s

/-- STZ 0x74, mode ZPX (R134). -/
def execStzZpx (o1 : ByteX) (s : State) : Result := retireF2 0x74 o1 s

/-- ADC 0x75, mode ZPX (R134). -/
def execAdcZpx (o1 : ByteX) (s : State) : Result := retireF2 0x75 o1 s

/-- ROR 0x76, mode ZPX (R134). -/
def execRorZpx (o1 : ByteX) (s : State) : Result := retireF2 0x76 o1 s

/-- RMB7 0x77, mode ZP (R133). -/
def execRmb7 (o1 : ByteX) (s : State) : Result := retireF2 0x77 o1 s

/-- STY 0x84, mode ZP (R133). -/
def execStyZp (o1 : ByteX) (s : State) : Result := retireF2 0x84 o1 s

/-- STA 0x85, mode ZP (R133). -/
def execStaZp (o1 : ByteX) (s : State) : Result := retireF2 0x85 o1 s

/-- STX 0x86, mode ZP (R133). -/
def execStxZp (o1 : ByteX) (s : State) : Result := retireF2 0x86 o1 s

/-- SMB0 0x87, mode ZP (R133). -/
def execSmb0 (o1 : ByteX) (s : State) : Result := retireF2 0x87 o1 s

/-- STY 0x94, mode ZPX (R134). -/
def execStyZpx (o1 : ByteX) (s : State) : Result := retireF2 0x94 o1 s

/-- STA 0x95, mode ZPX (R134). -/
def execStaZpx (o1 : ByteX) (s : State) : Result := retireF2 0x95 o1 s

/-- STX 0x96, mode ZPY (R135). -/
def execStxZpy (o1 : ByteX) (s : State) : Result := retireF2 0x96 o1 s

/-- SMB1 0x97, mode ZP (R133). -/
def execSmb1 (o1 : ByteX) (s : State) : Result := retireF2 0x97 o1 s

/-- LDY 0xA4, mode ZP (R133). -/
def execLdyZp (o1 : ByteX) (s : State) : Result := retireF2 0xA4 o1 s

/-- LDA 0xA5, mode ZP (R133). -/
def execLdaZp (o1 : ByteX) (s : State) : Result := retireF2 0xA5 o1 s

/-- LDX 0xA6, mode ZP (R133). -/
def execLdxZp (o1 : ByteX) (s : State) : Result := retireF2 0xA6 o1 s

/-- SMB2 0xA7, mode ZP (R133). -/
def execSmb2 (o1 : ByteX) (s : State) : Result := retireF2 0xA7 o1 s

/-- LDY 0xB4, mode ZPX (R134). -/
def execLdyZpx (o1 : ByteX) (s : State) : Result := retireF2 0xB4 o1 s

/-- LDA 0xB5, mode ZPX (R134). -/
def execLdaZpx (o1 : ByteX) (s : State) : Result := retireF2 0xB5 o1 s

/-- LDX 0xB6, mode ZPY (R135). -/
def execLdxZpy (o1 : ByteX) (s : State) : Result := retireF2 0xB6 o1 s

/-- SMB3 0xB7, mode ZP (R133). -/
def execSmb3 (o1 : ByteX) (s : State) : Result := retireF2 0xB7 o1 s

/-- CPY 0xC4, mode ZP (R133). -/
def execCpyZp (o1 : ByteX) (s : State) : Result := retireF2 0xC4 o1 s

/-- CMP 0xC5, mode ZP (R133). -/
def execCmpZp (o1 : ByteX) (s : State) : Result := retireF2 0xC5 o1 s

/-- DEC 0xC6, mode ZP (R133). -/
def execDecZp (o1 : ByteX) (s : State) : Result := retireF2 0xC6 o1 s

/-- SMB4 0xC7, mode ZP (R133). -/
def execSmb4 (o1 : ByteX) (s : State) : Result := retireF2 0xC7 o1 s

/-- NOP 0xD4, mode ZPX (R134), reserved (R143). -/
def execNopZpxD4 (o1 : ByteX) (s : State) : Result := retireF2 0xD4 o1 s

/-- CMP 0xD5, mode ZPX (R134). -/
def execCmpZpx (o1 : ByteX) (s : State) : Result := retireF2 0xD5 o1 s

/-- DEC 0xD6, mode ZPX (R134). -/
def execDecZpx (o1 : ByteX) (s : State) : Result := retireF2 0xD6 o1 s

/-- SMB5 0xD7, mode ZP (R133). -/
def execSmb5 (o1 : ByteX) (s : State) : Result := retireF2 0xD7 o1 s

/-- CPX 0xE4, mode ZP (R133). -/
def execCpxZp (o1 : ByteX) (s : State) : Result := retireF2 0xE4 o1 s

/-- SBC 0xE5, mode ZP (R133). -/
def execSbcZp (o1 : ByteX) (s : State) : Result := retireF2 0xE5 o1 s

/-- INC 0xE6, mode ZP (R133). -/
def execIncZp (o1 : ByteX) (s : State) : Result := retireF2 0xE6 o1 s

/-- SMB6 0xE7, mode ZP (R133). -/
def execSmb6 (o1 : ByteX) (s : State) : Result := retireF2 0xE7 o1 s

/-- NOP 0xF4, mode ZPX (R134), reserved (R143). -/
def execNopZpxF4 (o1 : ByteX) (s : State) : Result := retireF2 0xF4 o1 s

/-- SBC 0xF5, mode ZPX (R134). -/
def execSbcZpx (o1 : ByteX) (s : State) : Result := retireF2 0xF5 o1 s

/-- INC 0xF6, mode ZPX (R134). -/
def execIncZpx (o1 : ByteX) (s : State) : Result := retireF2 0xF6 o1 s

/-- SMB7 0xF7, mode ZP (R133). -/
def execSmb7 (o1 : ByteX) (s : State) : Result := retireF2 0xF7 o1 s

end Sys2Proof.Machine
end

