-- ==== Sys2Proof/Machine/ZeroPageIndirect.lean ====
section
/-! DEFINITION. The meanings of the SEQ rows of modes IZX, IZY, IZP (spec/42_sequential_modes.md R136, R137, R138): the retire of a span whose
opcode byte is the row's. -/

namespace Sys2Proof.Machine

open Sys2Proof

/-- ORA 0x01, mode IZX (R136). -/
def execOraIzx (o1 : ByteX) (s : State) : Result := retireF2 0x01 o1 s

/-- ORA 0x11, mode IZY (R137). -/
def execOraIzy (o1 : ByteX) (s : State) : Result := retireF2 0x11 o1 s

/-- ORA 0x12, mode IZP (R138). -/
def execOraIzp (o1 : ByteX) (s : State) : Result := retireF2 0x12 o1 s

/-- AND 0x21, mode IZX (R136). -/
def execAndIzx (o1 : ByteX) (s : State) : Result := retireF2 0x21 o1 s

/-- AND 0x31, mode IZY (R137). -/
def execAndIzy (o1 : ByteX) (s : State) : Result := retireF2 0x31 o1 s

/-- AND 0x32, mode IZP (R138). -/
def execAndIzp (o1 : ByteX) (s : State) : Result := retireF2 0x32 o1 s

/-- EOR 0x41, mode IZX (R136). -/
def execEorIzx (o1 : ByteX) (s : State) : Result := retireF2 0x41 o1 s

/-- EOR 0x51, mode IZY (R137). -/
def execEorIzy (o1 : ByteX) (s : State) : Result := retireF2 0x51 o1 s

/-- EOR 0x52, mode IZP (R138). -/
def execEorIzp (o1 : ByteX) (s : State) : Result := retireF2 0x52 o1 s

/-- ADC 0x61, mode IZX (R136). -/
def execAdcIzx (o1 : ByteX) (s : State) : Result := retireF2 0x61 o1 s

/-- ADC 0x71, mode IZY (R137). -/
def execAdcIzy (o1 : ByteX) (s : State) : Result := retireF2 0x71 o1 s

/-- ADC 0x72, mode IZP (R138). -/
def execAdcIzp (o1 : ByteX) (s : State) : Result := retireF2 0x72 o1 s

/-- STA 0x81, mode IZX (R136). -/
def execStaIzx (o1 : ByteX) (s : State) : Result := retireF2 0x81 o1 s

/-- STA 0x91, mode IZY (R137). -/
def execStaIzy (o1 : ByteX) (s : State) : Result := retireF2 0x91 o1 s

/-- STA 0x92, mode IZP (R138). -/
def execStaIzp (o1 : ByteX) (s : State) : Result := retireF2 0x92 o1 s

/-- LDA 0xA1, mode IZX (R136). -/
def execLdaIzx (o1 : ByteX) (s : State) : Result := retireF2 0xA1 o1 s

/-- LDA 0xB1, mode IZY (R137). -/
def execLdaIzy (o1 : ByteX) (s : State) : Result := retireF2 0xB1 o1 s

/-- LDA 0xB2, mode IZP (R138). -/
def execLdaIzp (o1 : ByteX) (s : State) : Result := retireF2 0xB2 o1 s

/-- CMP 0xC1, mode IZX (R136). -/
def execCmpIzx (o1 : ByteX) (s : State) : Result := retireF2 0xC1 o1 s

/-- CMP 0xD1, mode IZY (R137). -/
def execCmpIzy (o1 : ByteX) (s : State) : Result := retireF2 0xD1 o1 s

/-- CMP 0xD2, mode IZP (R138). -/
def execCmpIzp (o1 : ByteX) (s : State) : Result := retireF2 0xD2 o1 s

/-- SBC 0xE1, mode IZX (R136). -/
def execSbcIzx (o1 : ByteX) (s : State) : Result := retireF2 0xE1 o1 s

/-- SBC 0xF1, mode IZY (R137). -/
def execSbcIzy (o1 : ByteX) (s : State) : Result := retireF2 0xF1 o1 s

/-- SBC 0xF2, mode IZP (R138). -/
def execSbcIzp (o1 : ByteX) (s : State) : Result := retireF2 0xF2 o1 s

end Sys2Proof.Machine
end

