-- ==== Sys2Proof/Machine/Rows.lean ====
section
/-! DEFINITION. The retire operation of the machine (spec/41_retire_pc.md R110): the meaning of the row that IR holds, found
by its opcode byte in the grid of R73, or the meaning of a run-time class. A FETCH and END call it, so what a run does with
an opcode row is that row's meaning. -/

namespace Sys2Proof.Machine

open Sys2Proof

/-- The meanings of row 0x of R73. -/
def meaningRow0 : List (ByteX → ByteX → State → Result) :=
  [fun _ _ => execBrk, fun a _ => execOraIzx a, fun a _ => execNopImm02 a, fun _ _ => execNopImp03,
   fun a _ => execTsbZp a, fun a _ => execOraZp a, fun a _ => execAslZp a, fun a _ => execRmb0 a,
   fun _ _ => execPhp, fun a _ => execOraImm a, fun _ _ => execAslAcc, fun _ _ => execNopImp0B,
   fun a b => execTsbAbs a b, fun a b => execOraAbs a b, fun a b => execAslAbs a b, fun a b => execBbr0 a b]

/-- The meanings of row 1x of R73. -/
def meaningRow1 : List (ByteX → ByteX → State → Result) :=
  [fun a _ => execBpl a, fun a _ => execOraIzy a, fun a _ => execOraIzp a, fun _ _ => execNopImp13,
   fun a _ => execTrbZp a, fun a _ => execOraZpx a, fun a _ => execAslZpx a, fun a _ => execRmb1 a,
   fun _ _ => execClc, fun a b => execOraAby a b, fun _ _ => execIncAcc, fun _ _ => execNopImp1B,
   fun a b => execTrbAbs a b, fun a b => execOraAbx a b, fun a b => execAslAbx a b, fun a b => execBbr1 a b]

/-- The meanings of row 2x of R73. -/
def meaningRow2 : List (ByteX → ByteX → State → Result) :=
  [fun a b => execJsr a b, fun a _ => execAndIzx a, fun a _ => execNopImm22 a, fun _ _ => execNopImp23,
   fun a _ => execBitZp a, fun a _ => execAndZp a, fun a _ => execRolZp a, fun a _ => execRmb2 a,
   fun _ _ => execPlp, fun a _ => execAndImm a, fun _ _ => execRolAcc, fun _ _ => execNopImp2B,
   fun a b => execBitAbs a b, fun a b => execAndAbs a b, fun a b => execRolAbs a b, fun a b => execBbr2 a b]

/-- The meanings of row 3x of R73. -/
def meaningRow3 : List (ByteX → ByteX → State → Result) :=
  [fun a _ => execBmi a, fun a _ => execAndIzy a, fun a _ => execAndIzp a, fun _ _ => execNopImp33,
   fun a _ => execBitZpx a, fun a _ => execAndZpx a, fun a _ => execRolZpx a, fun a _ => execRmb3 a,
   fun _ _ => execSec, fun a b => execAndAby a b, fun _ _ => execDecAcc, fun _ _ => execNopImp3B,
   fun a b => execBitAbx a b, fun a b => execAndAbx a b, fun a b => execRolAbx a b, fun a b => execBbr3 a b]

/-- The meanings of row 4x of R73. -/
def meaningRow4 : List (ByteX → ByteX → State → Result) :=
  [fun _ _ => execRti, fun a _ => execEorIzx a, fun a _ => execNopImm42 a, fun _ _ => execNopImp43,
   fun a _ => execNopZp44 a, fun a _ => execEorZp a, fun a _ => execLsrZp a, fun a _ => execRmb4 a,
   fun _ _ => execPha, fun a _ => execEorImm a, fun _ _ => execLsrAcc, fun _ _ => execNopImp4B,
   fun a b => execJmpAbs a b, fun a b => execEorAbs a b, fun a b => execLsrAbs a b, fun a b => execBbr4 a b]

/-- The meanings of row 5x of R73. -/
def meaningRow5 : List (ByteX → ByteX → State → Result) :=
  [fun a _ => execBvc a, fun a _ => execEorIzy a, fun a _ => execEorIzp a, fun _ _ => execNopImp53,
   fun a _ => execNopZpx54 a, fun a _ => execEorZpx a, fun a _ => execLsrZpx a, fun a _ => execRmb5 a,
   fun _ _ => execCli, fun a b => execEorAby a b, fun _ _ => execPhy, fun _ _ => execNopImp5B,
   fun a b => execNopAbs5C a b, fun a b => execEorAbx a b, fun a b => execLsrAbx a b, fun a b => execBbr5 a b]

/-- The meanings of row 6x of R73. -/
def meaningRow6 : List (ByteX → ByteX → State → Result) :=
  [fun _ _ => execRts, fun a _ => execAdcIzx a, fun a _ => execNopImm62 a, fun _ _ => execNopImp63,
   fun a _ => execStzZp a, fun a _ => execAdcZp a, fun a _ => execRorZp a, fun a _ => execRmb6 a,
   fun _ _ => execPla, fun a _ => execAdcImm a, fun _ _ => execRorAcc, fun _ _ => execNopImp6B,
   fun a b => execJmpInd a b, fun a b => execAdcAbs a b, fun a b => execRorAbs a b, fun a b => execBbr6 a b]

/-- The meanings of row 7x of R73. -/
def meaningRow7 : List (ByteX → ByteX → State → Result) :=
  [fun a _ => execBvs a, fun a _ => execAdcIzy a, fun a _ => execAdcIzp a, fun _ _ => execNopImp73,
   fun a _ => execStzZpx a, fun a _ => execAdcZpx a, fun a _ => execRorZpx a, fun a _ => execRmb7 a,
   fun _ _ => execSei, fun a b => execAdcAby a b, fun _ _ => execPly, fun _ _ => execNopImp7B,
   fun a b => execJmpIax a b, fun a b => execAdcAbx a b, fun a b => execRorAbx a b, fun a b => execBbr7 a b]

/-- The meanings of row 8x of R73. -/
def meaningRow8 : List (ByteX → ByteX → State → Result) :=
  [fun a _ => execBra a, fun a _ => execStaIzx a, fun a _ => execNopImm82 a, fun _ _ => execNopImp83,
   fun a _ => execStyZp a, fun a _ => execStaZp a, fun a _ => execStxZp a, fun a _ => execSmb0 a,
   fun _ _ => execDey, fun a _ => execBitImm a, fun _ _ => execTxa, fun _ _ => execNopImp8B,
   fun a b => execStyAbs a b, fun a b => execStaAbs a b, fun a b => execStxAbs a b, fun a b => execBbs0 a b]

/-- The meanings of row 9x of R73. -/
def meaningRow9 : List (ByteX → ByteX → State → Result) :=
  [fun a _ => execBcc a, fun a _ => execStaIzy a, fun a _ => execStaIzp a, fun _ _ => execNopImp93,
   fun a _ => execStyZpx a, fun a _ => execStaZpx a, fun a _ => execStxZpy a, fun a _ => execSmb1 a,
   fun _ _ => execTya, fun a b => execStaAby a b, fun _ _ => execTxs, fun _ _ => execNopImp9B,
   fun a b => execStzAbs a b, fun a b => execStaAbx a b, fun a b => execStzAbx a b, fun a b => execBbs1 a b]

/-- The meanings of row Ax of R73. -/
def meaningRowA : List (ByteX → ByteX → State → Result) :=
  [fun a _ => execLdyImm a, fun a _ => execLdaIzx a, fun a _ => execLdxImm a, fun _ _ => execNopImpA3,
   fun a _ => execLdyZp a, fun a _ => execLdaZp a, fun a _ => execLdxZp a, fun a _ => execSmb2 a,
   fun _ _ => execTay, fun a _ => execLdaImm a, fun _ _ => execTax, fun _ _ => execNopImpAB,
   fun a b => execLdyAbs a b, fun a b => execLdaAbs a b, fun a b => execLdxAbs a b, fun a b => execBbs2 a b]

/-- The meanings of row Bx of R73. -/
def meaningRowB : List (ByteX → ByteX → State → Result) :=
  [fun a _ => execBcs a, fun a _ => execLdaIzy a, fun a _ => execLdaIzp a, fun _ _ => execNopImpB3,
   fun a _ => execLdyZpx a, fun a _ => execLdaZpx a, fun a _ => execLdxZpy a, fun a _ => execSmb3 a,
   fun _ _ => execClv, fun a b => execLdaAby a b, fun _ _ => execTsx, fun _ _ => execNopImpBB,
   fun a b => execLdyAbx a b, fun a b => execLdaAbx a b, fun a b => execLdxAby a b, fun a b => execBbs3 a b]

/-- The meanings of row Cx of R73. -/
def meaningRowC : List (ByteX → ByteX → State → Result) :=
  [fun a _ => execCpyImm a, fun a _ => execCmpIzx a, fun a _ => execNopImmC2 a, fun _ _ => execNopImpC3,
   fun a _ => execCpyZp a, fun a _ => execCmpZp a, fun a _ => execDecZp a, fun a _ => execSmb4 a,
   fun _ _ => execIny, fun a _ => execCmpImm a, fun _ _ => execDex, fun _ _ => execWai,
   fun a b => execCpyAbs a b, fun a b => execCmpAbs a b, fun a b => execDecAbs a b, fun a b => execBbs4 a b]

/-- The meanings of row Dx of R73. -/
def meaningRowD : List (ByteX → ByteX → State → Result) :=
  [fun a _ => execBne a, fun a _ => execCmpIzy a, fun a _ => execCmpIzp a, fun _ _ => execNopImpD3,
   fun a _ => execNopZpxD4 a, fun a _ => execCmpZpx a, fun a _ => execDecZpx a, fun a _ => execSmb5 a,
   fun _ _ => execCld, fun a b => execCmpAby a b, fun _ _ => execPhx, fun _ _ => execStp,
   fun a b => execNopAbsDC a b, fun a b => execCmpAbx a b, fun a b => execDecAbx a b, fun a b => execBbs5 a b]

/-- The meanings of row Ex of R73. -/
def meaningRowE : List (ByteX → ByteX → State → Result) :=
  [fun a _ => execCpxImm a, fun a _ => execSbcIzx a, fun a _ => execNopImmE2 a, fun _ _ => execNopImpE3,
   fun a _ => execCpxZp a, fun a _ => execSbcZp a, fun a _ => execIncZp a, fun a _ => execSmb6 a,
   fun _ _ => execInx, fun a _ => execSbcImm a, fun _ _ => execNop, fun _ _ => execNopImpEB,
   fun a b => execCpxAbs a b, fun a b => execSbcAbs a b, fun a b => execIncAbs a b, fun a b => execBbs6 a b]

/-- The meanings of row Fx of R73. -/
def meaningRowF : List (ByteX → ByteX → State → Result) :=
  [fun a _ => execBeq a, fun a _ => execSbcIzy a, fun a _ => execSbcIzp a, fun _ _ => execNopImpF3,
   fun a _ => execNopZpxF4 a, fun a _ => execSbcZpx a, fun a _ => execIncZpx a, fun a _ => execSmb7 a,
   fun _ _ => execSed, fun a b => execSbcAby a b, fun _ _ => execPlx, fun _ _ => execNopImpFB,
   fun a b => execNopAbsFC a b, fun a b => execSbcAbx a b, fun a b => execIncAbx a b, fun a b => execBbs7 a b]

/-- The grid of R73 as meanings. -/
def meaningGrid : List (List (ByteX → ByteX → State → Result)) :=
  [meaningRow0, meaningRow1, meaningRow2, meaningRow3, meaningRow4, meaningRow5, meaningRow6, meaningRow7,
   meaningRow8, meaningRow9, meaningRowA, meaningRowB, meaningRowC, meaningRowD, meaningRowE, meaningRowF]

/-- The meaning of an opcode byte's row, given its operands. The grid is full, so the stand-in is never met. -/
def rowMeaning (b : Byte) (o1 o2 : ByteX) : State → Result :=
  (cellAt meaningGrid (fun _ _ => execRetireUnknown) b) o1 o2

/-- `retire(end_ts)` (R110): class selection by the interrupt test first, then X, then the table (R113, R122). The end is
latched in `endTs`, where the row's meaning reads it. -/
def retireSpan (endTs : Nat) (s : State) : Result :=
  let t : State := { s with endTs := endTs }
  match t.ir with
  | none => execRetireUnknown t
  | some b => if isInterrupt t.wcnt (some b) then execRetireInt b t.op1 t.op2 t else rowMeaning b t.op1 t.op2 t

/-- The retire at a fetch or at END happens only when SEEN = 1 (R91, R186). -/
def retireIfSeen (endTs : Nat) (s : State) : Result := if s.seen then retireSpan endTs s else .next s

/-- The instruction the span in the registers is retired as (R113): what `retireSpan` runs. -/
def retiring (r : Regs) : Instr :=
  match r.ir with
  | none => .retireUnknown
  | some b => if isInterrupt r.wcnt (some b) then .retireInt b r.op1 r.op2 else rowInstr b r.op1 r.op2

end Sys2Proof.Machine
end

