-- ==== Sys2Proof/Machine/Samples.lean ====
section
/-! DEFINITION. The meanings of the sample rows (spec/40_classifier.md R91 to R97) and of END (spec/44_output_format.md
R186). Each is admitted first (R90). The READ rows have their effect in whatever state they are run; the conditions that
select one of them are the decoder's (`decodeSample`; log 8). -/

namespace Sys2Proof.Machine

open Sys2Proof

/-- FETCH (R91): retire the span that ends, then load. `rw` has no effect (R62, D29). The instruction event comes before this
sample's own two events (R180), so after those of the samples of the span it covers, one of which has the same start: the
last clause of R187 item 4 is read against that (DEDUCED, log 15). -/
def execSampleFetch (d : ByteX) (_rw : Bool) (ts : Nat) (s : State) : Result :=
  guardSample ts s (andThen (retireIfSeen ts s) fun t => .next (loadFetch defaultParams d ts t))

/-- WRITE (R92). -/
def execSampleWrite (d : ByteX) (ts : Nat) (s : State) : Result :=
  guardSample ts s (.next (writeSample defaultParams d ts s))

/-- READ to Operand1 (R93). -/
def execSampleReadOperand1 (d : ByteX) (ts : Nat) (s : State) : Result :=
  guardSample ts s (.next (readOperand1 defaultParams d ts s))

/-- READ to Operand2, ordinary instruction (R94). -/
def execSampleReadOperand2 (d : ByteX) (ts : Nat) (s : State) : Result :=
  guardSample ts s (.next (readOperand2 defaultParams d ts s))

/-- READ to MemoryRead, the call's dummy read, folded like every MemoryRead sample (R95). -/
def execSampleReadCallDummy (d : ByteX) (ts : Nat) (s : State) : Result :=
  guardSample ts s (.next (readMemory defaultParams d ts s))

/-- READ to Operand2, the call's deferred second operand (R96). -/
def execSampleReadCallOperand2 (d : ByteX) (ts : Nat) (s : State) : Result :=
  guardSample ts s (.next (readOperand2 defaultParams d ts s))

/-- READ to MemoryRead (R97). -/
def execSampleReadMemoryRead (d : ByteX) (ts : Nat) (s : State) : Result :=
  guardSample ts s (.next (readMemory defaultParams d ts s))

/-- END (R186): refuse after END, else retire the span in progress with end LAST_TS + 1, then DONE. -/
def execEndOfCapture (s : State) : Result :=
  if s.done then .refused .afterEnd
  else andThen (retireIfSeen (flushEnd s.toRegs) s) fun t => .next { t with done := true }

/-- The row an input selects in a state (R62, R100), or the refusal of an indeterminate control line (R90 item 2, after
item 1 by R225). -/
def inputInstr (P : Params) (r : Regs) : Input → Except Refusal Instr
  | .endOfCapture => .ok .endOfCapture
  | .sample m =>
    match m.rw.bit?, m.sync.bit? with
    | some rw, some sync => .ok (decodeSample r.phase r.rem (isCall P r.ir) m.d.value rw sync m.ts)
    | _, _ => .error (if r.done then .afterEnd else .controlIndeterminate)

end Sys2Proof.Machine
end

