-- ==== Sys2Proof/Machine/Dispatch.lean ====
section
/-! DEFINITION. One arm per constructor of Instr, each a direct call of its meaning. -/

namespace Sys2Proof.Machine

open Sys2Proof

def exec (i : Instr) (s : State) : Host.Outcome State Fault Refusal :=
  match i with
  | .brk => Sys2Proof.Machine.execBrk s
  | .oraIzx o1 => Sys2Proof.Machine.execOraIzx o1 s
  | .nopImm02 o1 => Sys2Proof.Machine.execNopImm02 o1 s
  | .nopImp03 => Sys2Proof.Machine.execNopImp03 s
  | .tsbZp o1 => Sys2Proof.Machine.execTsbZp o1 s
  | .oraZp o1 => Sys2Proof.Machine.execOraZp o1 s
  | .aslZp o1 => Sys2Proof.Machine.execAslZp o1 s
  | .rmb0 o1 => Sys2Proof.Machine.execRmb0 o1 s
  | .php => Sys2Proof.Machine.execPhp s
  | .oraImm o1 => Sys2Proof.Machine.execOraImm o1 s
  | .aslAcc => Sys2Proof.Machine.execAslAcc s
  | .nopImp0B => Sys2Proof.Machine.execNopImp0B s
  | .tsbAbs o1 o2 => Sys2Proof.Machine.execTsbAbs o1 o2 s
  | .oraAbs o1 o2 => Sys2Proof.Machine.execOraAbs o1 o2 s
  | .aslAbs o1 o2 => Sys2Proof.Machine.execAslAbs o1 o2 s
  | .bbr0 o1 o2 => Sys2Proof.Machine.execBbr0 o1 o2 s
  | .bpl o1 => Sys2Proof.Machine.execBpl o1 s
  | .oraIzy o1 => Sys2Proof.Machine.execOraIzy o1 s
  | .oraIzp o1 => Sys2Proof.Machine.execOraIzp o1 s
  | .nopImp13 => Sys2Proof.Machine.execNopImp13 s
  | .trbZp o1 => Sys2Proof.Machine.execTrbZp o1 s
  | .oraZpx o1 => Sys2Proof.Machine.execOraZpx o1 s
  | .aslZpx o1 => Sys2Proof.Machine.execAslZpx o1 s
  | .rmb1 o1 => Sys2Proof.Machine.execRmb1 o1 s
  | .clc => Sys2Proof.Machine.execClc s
  | .oraAby o1 o2 => Sys2Proof.Machine.execOraAby o1 o2 s
  | .incAcc => Sys2Proof.Machine.execIncAcc s
  | .nopImp1B => Sys2Proof.Machine.execNopImp1B s
  | .trbAbs o1 o2 => Sys2Proof.Machine.execTrbAbs o1 o2 s
  | .oraAbx o1 o2 => Sys2Proof.Machine.execOraAbx o1 o2 s
  | .aslAbx o1 o2 => Sys2Proof.Machine.execAslAbx o1 o2 s
  | .bbr1 o1 o2 => Sys2Proof.Machine.execBbr1 o1 o2 s
  | .jsr o1 o2 => Sys2Proof.Machine.execJsr o1 o2 s
  | .andIzx o1 => Sys2Proof.Machine.execAndIzx o1 s
  | .nopImm22 o1 => Sys2Proof.Machine.execNopImm22 o1 s
  | .nopImp23 => Sys2Proof.Machine.execNopImp23 s
  | .bitZp o1 => Sys2Proof.Machine.execBitZp o1 s
  | .andZp o1 => Sys2Proof.Machine.execAndZp o1 s
  | .rolZp o1 => Sys2Proof.Machine.execRolZp o1 s
  | .rmb2 o1 => Sys2Proof.Machine.execRmb2 o1 s
  | .plp => Sys2Proof.Machine.execPlp s
  | .andImm o1 => Sys2Proof.Machine.execAndImm o1 s
  | .rolAcc => Sys2Proof.Machine.execRolAcc s
  | .nopImp2B => Sys2Proof.Machine.execNopImp2B s
  | .bitAbs o1 o2 => Sys2Proof.Machine.execBitAbs o1 o2 s
  | .andAbs o1 o2 => Sys2Proof.Machine.execAndAbs o1 o2 s
  | .rolAbs o1 o2 => Sys2Proof.Machine.execRolAbs o1 o2 s
  | .bbr2 o1 o2 => Sys2Proof.Machine.execBbr2 o1 o2 s
  | .bmi o1 => Sys2Proof.Machine.execBmi o1 s
  | .andIzy o1 => Sys2Proof.Machine.execAndIzy o1 s
  | .andIzp o1 => Sys2Proof.Machine.execAndIzp o1 s
  | .nopImp33 => Sys2Proof.Machine.execNopImp33 s
  | .bitZpx o1 => Sys2Proof.Machine.execBitZpx o1 s
  | .andZpx o1 => Sys2Proof.Machine.execAndZpx o1 s
  | .rolZpx o1 => Sys2Proof.Machine.execRolZpx o1 s
  | .rmb3 o1 => Sys2Proof.Machine.execRmb3 o1 s
  | .sec => Sys2Proof.Machine.execSec s
  | .andAby o1 o2 => Sys2Proof.Machine.execAndAby o1 o2 s
  | .decAcc => Sys2Proof.Machine.execDecAcc s
  | .nopImp3B => Sys2Proof.Machine.execNopImp3B s
  | .bitAbx o1 o2 => Sys2Proof.Machine.execBitAbx o1 o2 s
  | .andAbx o1 o2 => Sys2Proof.Machine.execAndAbx o1 o2 s
  | .rolAbx o1 o2 => Sys2Proof.Machine.execRolAbx o1 o2 s
  | .bbr3 o1 o2 => Sys2Proof.Machine.execBbr3 o1 o2 s
  | .rti => Sys2Proof.Machine.execRti s
  | .eorIzx o1 => Sys2Proof.Machine.execEorIzx o1 s
  | .nopImm42 o1 => Sys2Proof.Machine.execNopImm42 o1 s
  | .nopImp43 => Sys2Proof.Machine.execNopImp43 s
  | .nopZp44 o1 => Sys2Proof.Machine.execNopZp44 o1 s
  | .eorZp o1 => Sys2Proof.Machine.execEorZp o1 s
  | .lsrZp o1 => Sys2Proof.Machine.execLsrZp o1 s
  | .rmb4 o1 => Sys2Proof.Machine.execRmb4 o1 s
  | .pha => Sys2Proof.Machine.execPha s
  | .eorImm o1 => Sys2Proof.Machine.execEorImm o1 s
  | .lsrAcc => Sys2Proof.Machine.execLsrAcc s
  | .nopImp4B => Sys2Proof.Machine.execNopImp4B s
  | .jmpAbs o1 o2 => Sys2Proof.Machine.execJmpAbs o1 o2 s
  | .eorAbs o1 o2 => Sys2Proof.Machine.execEorAbs o1 o2 s
  | .lsrAbs o1 o2 => Sys2Proof.Machine.execLsrAbs o1 o2 s
  | .bbr4 o1 o2 => Sys2Proof.Machine.execBbr4 o1 o2 s
  | .bvc o1 => Sys2Proof.Machine.execBvc o1 s
  | .eorIzy o1 => Sys2Proof.Machine.execEorIzy o1 s
  | .eorIzp o1 => Sys2Proof.Machine.execEorIzp o1 s
  | .nopImp53 => Sys2Proof.Machine.execNopImp53 s
  | .nopZpx54 o1 => Sys2Proof.Machine.execNopZpx54 o1 s
  | .eorZpx o1 => Sys2Proof.Machine.execEorZpx o1 s
  | .lsrZpx o1 => Sys2Proof.Machine.execLsrZpx o1 s
  | .rmb5 o1 => Sys2Proof.Machine.execRmb5 o1 s
  | .cli => Sys2Proof.Machine.execCli s
  | .eorAby o1 o2 => Sys2Proof.Machine.execEorAby o1 o2 s
  | .phy => Sys2Proof.Machine.execPhy s
  | .nopImp5B => Sys2Proof.Machine.execNopImp5B s
  | .nopAbs5C o1 o2 => Sys2Proof.Machine.execNopAbs5C o1 o2 s
  | .eorAbx o1 o2 => Sys2Proof.Machine.execEorAbx o1 o2 s
  | .lsrAbx o1 o2 => Sys2Proof.Machine.execLsrAbx o1 o2 s
  | .bbr5 o1 o2 => Sys2Proof.Machine.execBbr5 o1 o2 s
  | .rts => Sys2Proof.Machine.execRts s
  | .adcIzx o1 => Sys2Proof.Machine.execAdcIzx o1 s
  | .nopImm62 o1 => Sys2Proof.Machine.execNopImm62 o1 s
  | .nopImp63 => Sys2Proof.Machine.execNopImp63 s
  | .stzZp o1 => Sys2Proof.Machine.execStzZp o1 s
  | .adcZp o1 => Sys2Proof.Machine.execAdcZp o1 s
  | .rorZp o1 => Sys2Proof.Machine.execRorZp o1 s
  | .rmb6 o1 => Sys2Proof.Machine.execRmb6 o1 s
  | .pla => Sys2Proof.Machine.execPla s
  | .adcImm o1 => Sys2Proof.Machine.execAdcImm o1 s
  | .rorAcc => Sys2Proof.Machine.execRorAcc s
  | .nopImp6B => Sys2Proof.Machine.execNopImp6B s
  | .jmpInd o1 o2 => Sys2Proof.Machine.execJmpInd o1 o2 s
  | .adcAbs o1 o2 => Sys2Proof.Machine.execAdcAbs o1 o2 s
  | .rorAbs o1 o2 => Sys2Proof.Machine.execRorAbs o1 o2 s
  | .bbr6 o1 o2 => Sys2Proof.Machine.execBbr6 o1 o2 s
  | .bvs o1 => Sys2Proof.Machine.execBvs o1 s
  | .adcIzy o1 => Sys2Proof.Machine.execAdcIzy o1 s
  | .adcIzp o1 => Sys2Proof.Machine.execAdcIzp o1 s
  | .nopImp73 => Sys2Proof.Machine.execNopImp73 s
  | .stzZpx o1 => Sys2Proof.Machine.execStzZpx o1 s
  | .adcZpx o1 => Sys2Proof.Machine.execAdcZpx o1 s
  | .rorZpx o1 => Sys2Proof.Machine.execRorZpx o1 s
  | .rmb7 o1 => Sys2Proof.Machine.execRmb7 o1 s
  | .sei => Sys2Proof.Machine.execSei s
  | .adcAby o1 o2 => Sys2Proof.Machine.execAdcAby o1 o2 s
  | .ply => Sys2Proof.Machine.execPly s
  | .nopImp7B => Sys2Proof.Machine.execNopImp7B s
  | .jmpIax o1 o2 => Sys2Proof.Machine.execJmpIax o1 o2 s
  | .adcAbx o1 o2 => Sys2Proof.Machine.execAdcAbx o1 o2 s
  | .rorAbx o1 o2 => Sys2Proof.Machine.execRorAbx o1 o2 s
  | .bbr7 o1 o2 => Sys2Proof.Machine.execBbr7 o1 o2 s
  | .bra o1 => Sys2Proof.Machine.execBra o1 s
  | .staIzx o1 => Sys2Proof.Machine.execStaIzx o1 s
  | .nopImm82 o1 => Sys2Proof.Machine.execNopImm82 o1 s
  | .nopImp83 => Sys2Proof.Machine.execNopImp83 s
  | .styZp o1 => Sys2Proof.Machine.execStyZp o1 s
  | .staZp o1 => Sys2Proof.Machine.execStaZp o1 s
  | .stxZp o1 => Sys2Proof.Machine.execStxZp o1 s
  | .smb0 o1 => Sys2Proof.Machine.execSmb0 o1 s
  | .dey => Sys2Proof.Machine.execDey s
  | .bitImm o1 => Sys2Proof.Machine.execBitImm o1 s
  | .txa => Sys2Proof.Machine.execTxa s
  | .nopImp8B => Sys2Proof.Machine.execNopImp8B s
  | .styAbs o1 o2 => Sys2Proof.Machine.execStyAbs o1 o2 s
  | .staAbs o1 o2 => Sys2Proof.Machine.execStaAbs o1 o2 s
  | .stxAbs o1 o2 => Sys2Proof.Machine.execStxAbs o1 o2 s
  | .bbs0 o1 o2 => Sys2Proof.Machine.execBbs0 o1 o2 s
  | .bcc o1 => Sys2Proof.Machine.execBcc o1 s
  | .staIzy o1 => Sys2Proof.Machine.execStaIzy o1 s
  | .staIzp o1 => Sys2Proof.Machine.execStaIzp o1 s
  | .nopImp93 => Sys2Proof.Machine.execNopImp93 s
  | .styZpx o1 => Sys2Proof.Machine.execStyZpx o1 s
  | .staZpx o1 => Sys2Proof.Machine.execStaZpx o1 s
  | .stxZpy o1 => Sys2Proof.Machine.execStxZpy o1 s
  | .smb1 o1 => Sys2Proof.Machine.execSmb1 o1 s
  | .tya => Sys2Proof.Machine.execTya s
  | .staAby o1 o2 => Sys2Proof.Machine.execStaAby o1 o2 s
  | .txs => Sys2Proof.Machine.execTxs s
  | .nopImp9B => Sys2Proof.Machine.execNopImp9B s
  | .stzAbs o1 o2 => Sys2Proof.Machine.execStzAbs o1 o2 s
  | .staAbx o1 o2 => Sys2Proof.Machine.execStaAbx o1 o2 s
  | .stzAbx o1 o2 => Sys2Proof.Machine.execStzAbx o1 o2 s
  | .bbs1 o1 o2 => Sys2Proof.Machine.execBbs1 o1 o2 s
  | .ldyImm o1 => Sys2Proof.Machine.execLdyImm o1 s
  | .ldaIzx o1 => Sys2Proof.Machine.execLdaIzx o1 s
  | .ldxImm o1 => Sys2Proof.Machine.execLdxImm o1 s
  | .nopImpA3 => Sys2Proof.Machine.execNopImpA3 s
  | .ldyZp o1 => Sys2Proof.Machine.execLdyZp o1 s
  | .ldaZp o1 => Sys2Proof.Machine.execLdaZp o1 s
  | .ldxZp o1 => Sys2Proof.Machine.execLdxZp o1 s
  | .smb2 o1 => Sys2Proof.Machine.execSmb2 o1 s
  | .tay => Sys2Proof.Machine.execTay s
  | .ldaImm o1 => Sys2Proof.Machine.execLdaImm o1 s
  | .tax => Sys2Proof.Machine.execTax s
  | .nopImpAB => Sys2Proof.Machine.execNopImpAB s
  | .ldyAbs o1 o2 => Sys2Proof.Machine.execLdyAbs o1 o2 s
  | .ldaAbs o1 o2 => Sys2Proof.Machine.execLdaAbs o1 o2 s
  | .ldxAbs o1 o2 => Sys2Proof.Machine.execLdxAbs o1 o2 s
  | .bbs2 o1 o2 => Sys2Proof.Machine.execBbs2 o1 o2 s
  | .bcs o1 => Sys2Proof.Machine.execBcs o1 s
  | .ldaIzy o1 => Sys2Proof.Machine.execLdaIzy o1 s
  | .ldaIzp o1 => Sys2Proof.Machine.execLdaIzp o1 s
  | .nopImpB3 => Sys2Proof.Machine.execNopImpB3 s
  | .ldyZpx o1 => Sys2Proof.Machine.execLdyZpx o1 s
  | .ldaZpx o1 => Sys2Proof.Machine.execLdaZpx o1 s
  | .ldxZpy o1 => Sys2Proof.Machine.execLdxZpy o1 s
  | .smb3 o1 => Sys2Proof.Machine.execSmb3 o1 s
  | .clv => Sys2Proof.Machine.execClv s
  | .ldaAby o1 o2 => Sys2Proof.Machine.execLdaAby o1 o2 s
  | .tsx => Sys2Proof.Machine.execTsx s
  | .nopImpBB => Sys2Proof.Machine.execNopImpBB s
  | .ldyAbx o1 o2 => Sys2Proof.Machine.execLdyAbx o1 o2 s
  | .ldaAbx o1 o2 => Sys2Proof.Machine.execLdaAbx o1 o2 s
  | .ldxAby o1 o2 => Sys2Proof.Machine.execLdxAby o1 o2 s
  | .bbs3 o1 o2 => Sys2Proof.Machine.execBbs3 o1 o2 s
  | .cpyImm o1 => Sys2Proof.Machine.execCpyImm o1 s
  | .cmpIzx o1 => Sys2Proof.Machine.execCmpIzx o1 s
  | .nopImmC2 o1 => Sys2Proof.Machine.execNopImmC2 o1 s
  | .nopImpC3 => Sys2Proof.Machine.execNopImpC3 s
  | .cpyZp o1 => Sys2Proof.Machine.execCpyZp o1 s
  | .cmpZp o1 => Sys2Proof.Machine.execCmpZp o1 s
  | .decZp o1 => Sys2Proof.Machine.execDecZp o1 s
  | .smb4 o1 => Sys2Proof.Machine.execSmb4 o1 s
  | .iny => Sys2Proof.Machine.execIny s
  | .cmpImm o1 => Sys2Proof.Machine.execCmpImm o1 s
  | .dex => Sys2Proof.Machine.execDex s
  | .wai => Sys2Proof.Machine.execWai s
  | .cpyAbs o1 o2 => Sys2Proof.Machine.execCpyAbs o1 o2 s
  | .cmpAbs o1 o2 => Sys2Proof.Machine.execCmpAbs o1 o2 s
  | .decAbs o1 o2 => Sys2Proof.Machine.execDecAbs o1 o2 s
  | .bbs4 o1 o2 => Sys2Proof.Machine.execBbs4 o1 o2 s
  | .bne o1 => Sys2Proof.Machine.execBne o1 s
  | .cmpIzy o1 => Sys2Proof.Machine.execCmpIzy o1 s
  | .cmpIzp o1 => Sys2Proof.Machine.execCmpIzp o1 s
  | .nopImpD3 => Sys2Proof.Machine.execNopImpD3 s
  | .nopZpxD4 o1 => Sys2Proof.Machine.execNopZpxD4 o1 s
  | .cmpZpx o1 => Sys2Proof.Machine.execCmpZpx o1 s
  | .decZpx o1 => Sys2Proof.Machine.execDecZpx o1 s
  | .smb5 o1 => Sys2Proof.Machine.execSmb5 o1 s
  | .cld => Sys2Proof.Machine.execCld s
  | .cmpAby o1 o2 => Sys2Proof.Machine.execCmpAby o1 o2 s
  | .phx => Sys2Proof.Machine.execPhx s
  | .stp => Sys2Proof.Machine.execStp s
  | .nopAbsDC o1 o2 => Sys2Proof.Machine.execNopAbsDC o1 o2 s
  | .cmpAbx o1 o2 => Sys2Proof.Machine.execCmpAbx o1 o2 s
  | .decAbx o1 o2 => Sys2Proof.Machine.execDecAbx o1 o2 s
  | .bbs5 o1 o2 => Sys2Proof.Machine.execBbs5 o1 o2 s
  | .cpxImm o1 => Sys2Proof.Machine.execCpxImm o1 s
  | .sbcIzx o1 => Sys2Proof.Machine.execSbcIzx o1 s
  | .nopImmE2 o1 => Sys2Proof.Machine.execNopImmE2 o1 s
  | .nopImpE3 => Sys2Proof.Machine.execNopImpE3 s
  | .cpxZp o1 => Sys2Proof.Machine.execCpxZp o1 s
  | .sbcZp o1 => Sys2Proof.Machine.execSbcZp o1 s
  | .incZp o1 => Sys2Proof.Machine.execIncZp o1 s
  | .smb6 o1 => Sys2Proof.Machine.execSmb6 o1 s
  | .inx => Sys2Proof.Machine.execInx s
  | .sbcImm o1 => Sys2Proof.Machine.execSbcImm o1 s
  | .nop => Sys2Proof.Machine.execNop s
  | .nopImpEB => Sys2Proof.Machine.execNopImpEB s
  | .cpxAbs o1 o2 => Sys2Proof.Machine.execCpxAbs o1 o2 s
  | .sbcAbs o1 o2 => Sys2Proof.Machine.execSbcAbs o1 o2 s
  | .incAbs o1 o2 => Sys2Proof.Machine.execIncAbs o1 o2 s
  | .bbs6 o1 o2 => Sys2Proof.Machine.execBbs6 o1 o2 s
  | .beq o1 => Sys2Proof.Machine.execBeq o1 s
  | .sbcIzy o1 => Sys2Proof.Machine.execSbcIzy o1 s
  | .sbcIzp o1 => Sys2Proof.Machine.execSbcIzp o1 s
  | .nopImpF3 => Sys2Proof.Machine.execNopImpF3 s
  | .nopZpxF4 o1 => Sys2Proof.Machine.execNopZpxF4 o1 s
  | .sbcZpx o1 => Sys2Proof.Machine.execSbcZpx o1 s
  | .incZpx o1 => Sys2Proof.Machine.execIncZpx o1 s
  | .smb7 o1 => Sys2Proof.Machine.execSmb7 o1 s
  | .sed => Sys2Proof.Machine.execSed s
  | .sbcAby o1 o2 => Sys2Proof.Machine.execSbcAby o1 o2 s
  | .plx => Sys2Proof.Machine.execPlx s
  | .nopImpFB => Sys2Proof.Machine.execNopImpFB s
  | .nopAbsFC o1 o2 => Sys2Proof.Machine.execNopAbsFC o1 o2 s
  | .sbcAbx o1 o2 => Sys2Proof.Machine.execSbcAbx o1 o2 s
  | .incAbx o1 o2 => Sys2Proof.Machine.execIncAbx o1 o2 s
  | .bbs7 o1 o2 => Sys2Proof.Machine.execBbs7 o1 o2 s
  | .sampleFetch d rw ts => Sys2Proof.Machine.execSampleFetch d rw ts s
  | .sampleWrite d ts => Sys2Proof.Machine.execSampleWrite d ts s
  | .sampleReadOperand1 d ts => Sys2Proof.Machine.execSampleReadOperand1 d ts s
  | .sampleReadOperand2 d ts => Sys2Proof.Machine.execSampleReadOperand2 d ts s
  | .sampleReadCallDummy d ts => Sys2Proof.Machine.execSampleReadCallDummy d ts s
  | .sampleReadCallOperand2 d ts => Sys2Proof.Machine.execSampleReadCallOperand2 d ts s
  | .sampleReadMemoryRead d ts => Sys2Proof.Machine.execSampleReadMemoryRead d ts s
  | .endOfCapture => Sys2Proof.Machine.execEndOfCapture s
  | .retireInt ir o1 o2 => Sys2Proof.Machine.execRetireInt ir o1 o2 s
  | .retireUnknown => Sys2Proof.Machine.execRetireUnknown s

end Sys2Proof.Machine
end

