-- ==== Sys2Proof/Machine/Step.lean ====
section
/-! DEFINITION. One step takes one pending input (spec/00_scope.md R9): the input selects a row, the row is executed, the
input is consumed. What a test could show wrong stands in the files this one calls. -/

namespace Sys2Proof.Machine

open Sys2Proof

/-- The input is consumed when it was given a meaning. -/
def consume (rest : List Input) : Result → Result
  | .next t => .next { t with pending := rest }
  | .fault f => .fault f
  | .refused r => .refused r

/-- One step. With no input delivered the block "holds its state indefinitely" (R236; log 9). -/
def step (s : State) : Host.Outcome State Fault Refusal :=
  match s.pending with
  | [] => .next s
  | inp :: rest =>
    match inputInstr defaultParams s.toRegs inp with
    | .error r => .refused r
    | .ok i => consume rest (exec i s)

/-- The state in which the span of the instruction with these bytes has just been captured, its bytes the last samples,
and END is pending: the next step flushes that span, so it runs exactly this instruction (R186; log 10). -/
def State.withSpan (s : State) (b : Byte) (o1 o2 : ByteX) : State :=
  let n := lenOf defaultParams b
  let start := match s.lastTs with
    | none => 0
    | some t => t + 1
  { s with
    seen := true
    done := false
    ir := some b
    op1 := if 2 ≤ n then o1 else none
    op2 := if 3 ≤ n then o2 else none
    nops := n - 1
    rem := 0
    wcnt := 0
    ncyc := n
    phase := if n = 1 then .fetch else if n = 2 then .operand1 else .operand2
    fetchTs := start
    lastTs := some (start + (n - 1))
    pending := [.endOfCapture] }

/-- `s` with the instruction whose bits are `w`, numbered as the opcode table numbers them, captured as the span that the
next step runs (log 10). -/
def State.withFetchWord (s : State) (nbits w : Nat) : State :=
  match tableBytes nbits w with
  | [some b, o1, o2] => s.withSpan b o1 o2
  | _ => s

end Sys2Proof.Machine
end

