-- ==== Sys2Proof/Machine/Generic.lean ====
section
/-! DEFINITION. The block for ANY parameters (spec/00_scope.md R5: OPTABLE and PC_RESET are open): construction with its
table check (R250, R222 code 4), the retire as one rule over the table's class field (41_retire_pc.md R110), and the full
step function of 40_classifier.md section 6 with END (44_output_format.md R186). `exec` and `step` are the same block with
the default table, row by row. -/

namespace Sys2Proof.Machine

open Sys2Proof

/-! ## Construction -/

/-- A candidate for OPTABLE, which may lack a row for some byte. -/
abbrev OpCandidate := Byte → Option Descriptor

/-- A candidate for MODETABLE, which may lack a mode. -/
abbrev ModeCandidate := Mode → Option ModeRow

/-- The constraints of R71 between the class and the mode of a descriptor, as far as they are about its fields (log 11):
an indirect jump has mode IND or IAX, an absolute jump has mode ABS, and mode REL means BRANCH unless an earlier line of
R71 applies. -/
def classFits (d : Descriptor) : Bool :=
  match d.cls with
  | .jmpind => d.mode == .ind || d.mode == .iax
  | .jmpabs => d.mode == .abs
  | .branch => d.mode == .rel
  | .rts => d.mode != .rel
  | .seq => d.mode != .rel
  | .rti => true
  | .brk => true
  | .jsr => true

/-- The byte values 0..255. -/
def allBytes : List Byte := (List.range 256).map (BitVec.ofNat 8)

/-- The check on OPTABLE (R72, R222 code 4): total, 0xA9 is (LDA, IMM), 0x00 has class BRK, R71 holds of every row. -/
def opCandidateOk (ops : OpCandidate) : Bool :=
  allBytes.all (fun b => match ops b with | none => false | some d => classFits d) &&
  (match ops 0xA9 with | none => false | some d => d.mnemonic == txt "LDA" && d.mode == .imm) &&
  (match ops 0x00 with | none => false | some d => d.cls == .brk)

/-- The check on MODETABLE (R42, R222 code 4): total over the sixteen modes, every length 1, 2 or 3. -/
def modeCandidateOk (modes : ModeCandidate) : Bool :=
  Mode.all.all fun m => match modes m with | none => false | some r => 1 ≤ r.length && r.length ≤ 3

/-- Reset with tables and PC_RESET (R250): check the tables, else refuse with code 4; then the reset state. -/
def construct (ops : OpCandidate) (modes : ModeCandidate) (pcReset : WordX) : Result :=
  if opCandidateOk ops && modeCandidateOk modes then .next (State.resetWith pcReset) else .refused .tableNotTotal

/-- Parameters the construction check would pass (R72). -/
def paramsOk (P : Params) : Bool := opCandidateOk (fun b => some (P.optable b)) && modeCandidateOk (fun m => some (P.modetable m))

/-! ## The retire and the step, for any parameters -/

/-- `retire(end_ts)` (R110), the class taken from the table. -/
def genericRetire (P : Params) (endTs : Nat) (s : State) : State :=
  let t : State := { s with endTs := endTs }
  let int := isInterrupt t.wcnt t.ir
  finishRetire P (if int then .int else .insn) (if int then .int else classX P t.ir) t.ir t.op1 t.op2 t

/-- The step function of an admitted sample, as 40_classifier.md section 6 writes it. -/
def genericSample (P : Params) (d : ByteX) (rw sync : Bool) (ts : Nat) (s : State) : State :=
  let t : State :=
    if sync then
      let s := if s.seen then genericRetire P ts s else s
      { s with ir := d, rem := lenX P d - 1, wcnt := 0, phase := .fetch, op1 := none, op2 := none, nops := 0, fetchTs := ts,
               ncyc := 1, seen := true }
    else
      let s := { s with ncyc := s.ncyc + 1 }
      let call := isCall P s.ir
      if !rw then { s with phase := .memoryWrite, wcnt := s.wcnt + 1 }
      else if s.phase = .fetch ∧ 0 < s.rem then { s with phase := .operand1, op1 := d, nops := 1, rem := s.rem - 1 }
      else if s.phase = .operand1 ∧ 0 < s.rem then
        if call then foldByte d { s with phase := .memoryRead }
        else { s with phase := .operand2, op2 := d, nops := 2, rem := s.rem - 1 }
      else if call ∧ 0 < s.rem then { s with phase := .operand2, op2 := d, nops := 2, rem := s.rem - 1 }
      else foldByte d { s with phase := .memoryRead }
  emitSample P d ts { t with lastTs := some ts }

/-- END, not yet ended (R186). -/
def genericEnd (P : Params) (s : State) : State :=
  let s := if s.seen then genericRetire P (flushEnd s.toRegs) s else s
  { s with done := true }

/-- One step for any parameters: admission (R90), then the step function. -/
def genericStep (P : Params) (s : State) : Result :=
  match s.pending with
  | [] => .next s
  | inp :: rest =>
    match admission s.toRegs inp with
    | some r => .refused r
    | none =>
      match inp with
      | .endOfCapture => .next { genericEnd P s with pending := rest }
      | .sample m =>
        .next { genericSample P m.d.value (decide (m.rw = .one)) (decide (m.sync = .one)) m.ts s with pending := rest }

end Sys2Proof.Machine
end

