-- ==== Sys2Proof/Safety/Rows.lean ====
section
/-! DEFINITION. The opcode lists of spec/42_sequential_modes.md (R130 to R142) and the nine branches of spec/43_control_flow.md
(R154 to R162), each opcode byte with its mnemonic and its instruction: what the statements about one addressing mode range
over. They are written from the lists of those rules, not from the grid of R73. -/

namespace Sys2Proof.Safety

open Sys2Proof Sys2Proof.Machine

/-- An opcode byte, its mnemonic, and the instruction: with no operand, with one, or with two (R63). -/
structure Row1 where
  byte : Byte
  mnemonic : Text
  instr : Instr

/-- A row of a two-byte mode. -/
structure Row2 where
  byte : Byte
  mnemonic : Text
  instr : ByteX → Instr

/-- A row of a three-byte mode. -/
structure Row3 where
  byte : Byte
  mnemonic : Text
  instr : ByteX → ByteX → Instr

/-- The SEQ opcodes of mode IMP (R130). -/
def impRows : List Row1 :=
  [⟨0x08, txt "PHP", .php⟩, ⟨0x18, txt "CLC", .clc⟩, ⟨0x28, txt "PLP", .plp⟩,
   ⟨0x38, txt "SEC", .sec⟩, ⟨0x48, txt "PHA", .pha⟩, ⟨0x58, txt "CLI", .cli⟩,
   ⟨0x5A, txt "PHY", .phy⟩, ⟨0x68, txt "PLA", .pla⟩, ⟨0x78, txt "SEI", .sei⟩,
   ⟨0x7A, txt "PLY", .ply⟩, ⟨0x88, txt "DEY", .dey⟩, ⟨0x8A, txt "TXA", .txa⟩,
   ⟨0x98, txt "TYA", .tya⟩, ⟨0x9A, txt "TXS", .txs⟩, ⟨0xA8, txt "TAY", .tay⟩,
   ⟨0xAA, txt "TAX", .tax⟩, ⟨0xB8, txt "CLV", .clv⟩, ⟨0xBA, txt "TSX", .tsx⟩,
   ⟨0xC8, txt "INY", .iny⟩, ⟨0xCA, txt "DEX", .dex⟩, ⟨0xCB, txt "WAI", .wai⟩,
   ⟨0xD8, txt "CLD", .cld⟩, ⟨0xDA, txt "PHX", .phx⟩, ⟨0xDB, txt "STP", .stp⟩,
   ⟨0xE8, txt "INX", .inx⟩, ⟨0xEA, txt "NOP", .nop⟩, ⟨0xF8, txt "SED", .sed⟩,
   ⟨0xFA, txt "PLX", .plx⟩, ⟨0x03, txt "NOP", .nopImp03⟩, ⟨0x13, txt "NOP", .nopImp13⟩,
   ⟨0x23, txt "NOP", .nopImp23⟩, ⟨0x33, txt "NOP", .nopImp33⟩, ⟨0x43, txt "NOP", .nopImp43⟩,
   ⟨0x53, txt "NOP", .nopImp53⟩, ⟨0x63, txt "NOP", .nopImp63⟩, ⟨0x73, txt "NOP", .nopImp73⟩,
   ⟨0x83, txt "NOP", .nopImp83⟩, ⟨0x93, txt "NOP", .nopImp93⟩, ⟨0xA3, txt "NOP", .nopImpA3⟩,
   ⟨0xB3, txt "NOP", .nopImpB3⟩, ⟨0xC3, txt "NOP", .nopImpC3⟩, ⟨0xD3, txt "NOP", .nopImpD3⟩,
   ⟨0xE3, txt "NOP", .nopImpE3⟩, ⟨0xF3, txt "NOP", .nopImpF3⟩, ⟨0x0B, txt "NOP", .nopImp0B⟩,
   ⟨0x1B, txt "NOP", .nopImp1B⟩, ⟨0x2B, txt "NOP", .nopImp2B⟩, ⟨0x3B, txt "NOP", .nopImp3B⟩,
   ⟨0x4B, txt "NOP", .nopImp4B⟩, ⟨0x5B, txt "NOP", .nopImp5B⟩, ⟨0x6B, txt "NOP", .nopImp6B⟩,
   ⟨0x7B, txt "NOP", .nopImp7B⟩, ⟨0x8B, txt "NOP", .nopImp8B⟩, ⟨0x9B, txt "NOP", .nopImp9B⟩,
   ⟨0xAB, txt "NOP", .nopImpAB⟩, ⟨0xBB, txt "NOP", .nopImpBB⟩, ⟨0xEB, txt "NOP", .nopImpEB⟩,
   ⟨0xFB, txt "NOP", .nopImpFB⟩]

/-- The SEQ opcodes of mode ACC (R131). -/
def accRows : List Row1 :=
  [⟨0x0A, txt "ASL", .aslAcc⟩, ⟨0x1A, txt "INC", .incAcc⟩, ⟨0x2A, txt "ROL", .rolAcc⟩,
   ⟨0x3A, txt "DEC", .decAcc⟩, ⟨0x4A, txt "LSR", .lsrAcc⟩, ⟨0x6A, txt "ROR", .rorAcc⟩]

/-- The SEQ opcodes of mode IMM (R132). -/
def immRows : List Row2 :=
  [⟨0x09, txt "ORA", .oraImm⟩, ⟨0x29, txt "AND", .andImm⟩, ⟨0x49, txt "EOR", .eorImm⟩,
   ⟨0x69, txt "ADC", .adcImm⟩, ⟨0x89, txt "BIT", .bitImm⟩, ⟨0xA0, txt "LDY", .ldyImm⟩,
   ⟨0xA2, txt "LDX", .ldxImm⟩, ⟨0xA9, txt "LDA", .ldaImm⟩, ⟨0xC0, txt "CPY", .cpyImm⟩,
   ⟨0xC9, txt "CMP", .cmpImm⟩, ⟨0xE0, txt "CPX", .cpxImm⟩, ⟨0xE9, txt "SBC", .sbcImm⟩,
   ⟨0x02, txt "NOP", .nopImm02⟩, ⟨0x22, txt "NOP", .nopImm22⟩, ⟨0x42, txt "NOP", .nopImm42⟩,
   ⟨0x62, txt "NOP", .nopImm62⟩, ⟨0x82, txt "NOP", .nopImm82⟩, ⟨0xC2, txt "NOP", .nopImmC2⟩,
   ⟨0xE2, txt "NOP", .nopImmE2⟩]

/-- The SEQ opcodes of mode ZP (R133). -/
def zpRows : List Row2 :=
  [⟨0x04, txt "TSB", .tsbZp⟩, ⟨0x05, txt "ORA", .oraZp⟩, ⟨0x06, txt "ASL", .aslZp⟩,
   ⟨0x14, txt "TRB", .trbZp⟩, ⟨0x24, txt "BIT", .bitZp⟩, ⟨0x25, txt "AND", .andZp⟩,
   ⟨0x26, txt "ROL", .rolZp⟩, ⟨0x45, txt "EOR", .eorZp⟩, ⟨0x46, txt "LSR", .lsrZp⟩,
   ⟨0x64, txt "STZ", .stzZp⟩, ⟨0x65, txt "ADC", .adcZp⟩, ⟨0x66, txt "ROR", .rorZp⟩,
   ⟨0x84, txt "STY", .styZp⟩, ⟨0x85, txt "STA", .staZp⟩, ⟨0x86, txt "STX", .stxZp⟩,
   ⟨0xA4, txt "LDY", .ldyZp⟩, ⟨0xA5, txt "LDA", .ldaZp⟩, ⟨0xA6, txt "LDX", .ldxZp⟩,
   ⟨0xC4, txt "CPY", .cpyZp⟩, ⟨0xC5, txt "CMP", .cmpZp⟩, ⟨0xC6, txt "DEC", .decZp⟩,
   ⟨0xE4, txt "CPX", .cpxZp⟩, ⟨0xE5, txt "SBC", .sbcZp⟩, ⟨0xE6, txt "INC", .incZp⟩,
   ⟨0x07, txt "RMB0", .rmb0⟩, ⟨0x17, txt "RMB1", .rmb1⟩, ⟨0x27, txt "RMB2", .rmb2⟩,
   ⟨0x37, txt "RMB3", .rmb3⟩, ⟨0x47, txt "RMB4", .rmb4⟩, ⟨0x57, txt "RMB5", .rmb5⟩,
   ⟨0x67, txt "RMB6", .rmb6⟩, ⟨0x77, txt "RMB7", .rmb7⟩, ⟨0x87, txt "SMB0", .smb0⟩,
   ⟨0x97, txt "SMB1", .smb1⟩, ⟨0xA7, txt "SMB2", .smb2⟩, ⟨0xB7, txt "SMB3", .smb3⟩,
   ⟨0xC7, txt "SMB4", .smb4⟩, ⟨0xD7, txt "SMB5", .smb5⟩, ⟨0xE7, txt "SMB6", .smb6⟩,
   ⟨0xF7, txt "SMB7", .smb7⟩, ⟨0x44, txt "NOP", .nopZp44⟩]

/-- The SEQ opcodes of mode ZPX (R134). -/
def zpxRows : List Row2 :=
  [⟨0x15, txt "ORA", .oraZpx⟩, ⟨0x16, txt "ASL", .aslZpx⟩, ⟨0x34, txt "BIT", .bitZpx⟩,
   ⟨0x35, txt "AND", .andZpx⟩, ⟨0x36, txt "ROL", .rolZpx⟩, ⟨0x55, txt "EOR", .eorZpx⟩,
   ⟨0x56, txt "LSR", .lsrZpx⟩, ⟨0x74, txt "STZ", .stzZpx⟩, ⟨0x75, txt "ADC", .adcZpx⟩,
   ⟨0x76, txt "ROR", .rorZpx⟩, ⟨0x94, txt "STY", .styZpx⟩, ⟨0x95, txt "STA", .staZpx⟩,
   ⟨0xB4, txt "LDY", .ldyZpx⟩, ⟨0xB5, txt "LDA", .ldaZpx⟩, ⟨0xD5, txt "CMP", .cmpZpx⟩,
   ⟨0xD6, txt "DEC", .decZpx⟩, ⟨0xF5, txt "SBC", .sbcZpx⟩, ⟨0xF6, txt "INC", .incZpx⟩,
   ⟨0x54, txt "NOP", .nopZpx54⟩, ⟨0xD4, txt "NOP", .nopZpxD4⟩, ⟨0xF4, txt "NOP", .nopZpxF4⟩]

/-- The SEQ opcodes of mode ZPY (R135). -/
def zpyRows : List Row2 :=
  [⟨0x96, txt "STX", .stxZpy⟩, ⟨0xB6, txt "LDX", .ldxZpy⟩]

/-- The SEQ opcodes of mode IZX (R136). -/
def izxRows : List Row2 :=
  [⟨0x01, txt "ORA", .oraIzx⟩, ⟨0x21, txt "AND", .andIzx⟩, ⟨0x41, txt "EOR", .eorIzx⟩,
   ⟨0x61, txt "ADC", .adcIzx⟩, ⟨0x81, txt "STA", .staIzx⟩, ⟨0xA1, txt "LDA", .ldaIzx⟩,
   ⟨0xC1, txt "CMP", .cmpIzx⟩, ⟨0xE1, txt "SBC", .sbcIzx⟩]

/-- The SEQ opcodes of mode IZY (R137). -/
def izyRows : List Row2 :=
  [⟨0x11, txt "ORA", .oraIzy⟩, ⟨0x31, txt "AND", .andIzy⟩, ⟨0x51, txt "EOR", .eorIzy⟩,
   ⟨0x71, txt "ADC", .adcIzy⟩, ⟨0x91, txt "STA", .staIzy⟩, ⟨0xB1, txt "LDA", .ldaIzy⟩,
   ⟨0xD1, txt "CMP", .cmpIzy⟩, ⟨0xF1, txt "SBC", .sbcIzy⟩]

/-- The SEQ opcodes of mode IZP (R138). -/
def izpRows : List Row2 :=
  [⟨0x12, txt "ORA", .oraIzp⟩, ⟨0x32, txt "AND", .andIzp⟩, ⟨0x52, txt "EOR", .eorIzp⟩,
   ⟨0x72, txt "ADC", .adcIzp⟩, ⟨0x92, txt "STA", .staIzp⟩, ⟨0xB2, txt "LDA", .ldaIzp⟩,
   ⟨0xD2, txt "CMP", .cmpIzp⟩, ⟨0xF2, txt "SBC", .sbcIzp⟩]

/-- The SEQ opcodes of mode ABS (R139). -/
def absRows : List Row3 :=
  [⟨0x0C, txt "TSB", .tsbAbs⟩, ⟨0x0D, txt "ORA", .oraAbs⟩, ⟨0x0E, txt "ASL", .aslAbs⟩,
   ⟨0x1C, txt "TRB", .trbAbs⟩, ⟨0x2C, txt "BIT", .bitAbs⟩, ⟨0x2D, txt "AND", .andAbs⟩,
   ⟨0x2E, txt "ROL", .rolAbs⟩, ⟨0x4D, txt "EOR", .eorAbs⟩, ⟨0x4E, txt "LSR", .lsrAbs⟩,
   ⟨0x6D, txt "ADC", .adcAbs⟩, ⟨0x6E, txt "ROR", .rorAbs⟩, ⟨0x8C, txt "STY", .styAbs⟩,
   ⟨0x8D, txt "STA", .staAbs⟩, ⟨0x8E, txt "STX", .stxAbs⟩, ⟨0x9C, txt "STZ", .stzAbs⟩,
   ⟨0xAC, txt "LDY", .ldyAbs⟩, ⟨0xAD, txt "LDA", .ldaAbs⟩, ⟨0xAE, txt "LDX", .ldxAbs⟩,
   ⟨0xCC, txt "CPY", .cpyAbs⟩, ⟨0xCD, txt "CMP", .cmpAbs⟩, ⟨0xCE, txt "DEC", .decAbs⟩,
   ⟨0xEC, txt "CPX", .cpxAbs⟩, ⟨0xED, txt "SBC", .sbcAbs⟩, ⟨0xEE, txt "INC", .incAbs⟩,
   ⟨0x5C, txt "NOP", .nopAbs5C⟩, ⟨0xDC, txt "NOP", .nopAbsDC⟩, ⟨0xFC, txt "NOP", .nopAbsFC⟩]

/-- The SEQ opcodes of mode ABX (R140). -/
def abxRows : List Row3 :=
  [⟨0x1D, txt "ORA", .oraAbx⟩, ⟨0x1E, txt "ASL", .aslAbx⟩, ⟨0x3C, txt "BIT", .bitAbx⟩,
   ⟨0x3D, txt "AND", .andAbx⟩, ⟨0x3E, txt "ROL", .rolAbx⟩, ⟨0x5D, txt "EOR", .eorAbx⟩,
   ⟨0x5E, txt "LSR", .lsrAbx⟩, ⟨0x7D, txt "ADC", .adcAbx⟩, ⟨0x7E, txt "ROR", .rorAbx⟩,
   ⟨0x9D, txt "STA", .staAbx⟩, ⟨0x9E, txt "STZ", .stzAbx⟩, ⟨0xBC, txt "LDY", .ldyAbx⟩,
   ⟨0xBD, txt "LDA", .ldaAbx⟩, ⟨0xDD, txt "CMP", .cmpAbx⟩, ⟨0xDE, txt "DEC", .decAbx⟩,
   ⟨0xFD, txt "SBC", .sbcAbx⟩, ⟨0xFE, txt "INC", .incAbx⟩]

/-- The SEQ opcodes of mode ABY (R141). -/
def abyRows : List Row3 :=
  [⟨0x19, txt "ORA", .oraAby⟩, ⟨0x39, txt "AND", .andAby⟩, ⟨0x59, txt "EOR", .eorAby⟩,
   ⟨0x79, txt "ADC", .adcAby⟩, ⟨0x99, txt "STA", .staAby⟩, ⟨0xB9, txt "LDA", .ldaAby⟩,
   ⟨0xBE, txt "LDX", .ldxAby⟩, ⟨0xD9, txt "CMP", .cmpAby⟩, ⟨0xF9, txt "SBC", .sbcAby⟩]

/-- The SEQ opcodes of mode ZPR (R142). -/
def zprRows : List Row3 :=
  [⟨0x0F, txt "BBR0", .bbr0⟩, ⟨0x1F, txt "BBR1", .bbr1⟩, ⟨0x2F, txt "BBR2", .bbr2⟩,
   ⟨0x3F, txt "BBR3", .bbr3⟩, ⟨0x4F, txt "BBR4", .bbr4⟩, ⟨0x5F, txt "BBR5", .bbr5⟩,
   ⟨0x6F, txt "BBR6", .bbr6⟩, ⟨0x7F, txt "BBR7", .bbr7⟩, ⟨0x8F, txt "BBS0", .bbs0⟩,
   ⟨0x9F, txt "BBS1", .bbs1⟩, ⟨0xAF, txt "BBS2", .bbs2⟩, ⟨0xBF, txt "BBS3", .bbs3⟩,
   ⟨0xCF, txt "BBS4", .bbs4⟩, ⟨0xDF, txt "BBS5", .bbs5⟩, ⟨0xEF, txt "BBS6", .bbs6⟩,
   ⟨0xFF, txt "BBS7", .bbs7⟩]

/-- The nine relative branches (R154 to R162). -/
def branchRows : List Row2 :=
  [⟨0x10, txt "BPL", .bpl⟩, ⟨0x30, txt "BMI", .bmi⟩, ⟨0x50, txt "BVC", .bvc⟩,
   ⟨0x70, txt "BVS", .bvs⟩, ⟨0x80, txt "BRA", .bra⟩, ⟨0x90, txt "BCC", .bcc⟩,
   ⟨0xB0, txt "BCS", .bcs⟩, ⟨0xD0, txt "BNE", .bne⟩, ⟨0xF0, txt "BEQ", .beq⟩]

end Sys2Proof.Safety
end

