-- ==== Sys2Proof/Safety.lean ====
section
/-! DEFINITION. What the statements speak of: the register invariants (spec/10_state.md R27), the shape of the event
sequence (spec/44_output_format.md R187), and what one retire does (spec/41_retire_pc.md R110, R111). -/

namespace Sys2Proof.Safety

open Sys2Proof Sys2Proof.Machine

/-! ## Registers -/

/-- The invariants of R27 as the rule writes them, items (b) to (f). Item (a) holds by the type of PHASE. Item (b)'s
equation is not kept by every step (log 12). -/
structure RuleInvariants (P : Params) (r : Regs) : Prop where
  countsAddUp : r.seen = true → r.nops + r.rem = lenX P r.ir - 1
  countWithin : r.seen = true → r.nops ≤ lenX P r.ir - 1
  remAtMostTwo : r.rem ≤ 2
  writesWithinSpan : r.wcnt ≤ r.ncyc
  spanStarted : r.seen = true → 1 ≤ r.ncyc ∧ ∃ t, r.lastTs = some t ∧ r.fetchTs ≤ t
  operand2Count : r.phase = .operand2 → r.nops = 2
  operand1Count : r.phase = .operand1 → r.nops = 1
  fetchCounts : r.phase = .fetch → r.nops = 0 ∧ r.wcnt = 0 ∧ r.ncyc = 1

/-- The invariants that every step keeps: R27 with the equation of item (b) for every opcode but the call, and, before the
first fetch, nothing to capture and no opcode (R29, R251). -/
structure Invariants (P : Params) (r : Regs) : Prop where
  countsAddUp : r.seen = true → isCall P r.ir = false → r.nops + r.rem = lenX P r.ir - 1
  countWithin : r.seen = true → r.nops ≤ lenX P r.ir - 1
  remAtMostTwo : r.rem ≤ 2
  writesWithinSpan : r.wcnt ≤ r.ncyc
  spanStarted : r.seen = true → 1 ≤ r.ncyc ∧ ∃ t, r.lastTs = some t ∧ r.fetchTs ≤ t
  operand2Count : r.phase = .operand2 → r.nops = 2
  operand1Count : r.phase = .operand1 → r.nops = 1
  fetchCounts : r.phase = .fetch → r.nops = 0 ∧ r.wcnt = 0 ∧ r.ncyc = 1
  beforeFetch : r.seen = false → r.rem = 0 ∧ r.ir = none

/-- The sample with this timestamp is admitted, its control lines being known (R90 items 1 and 3). -/
def Admitted (ts : Nat) (r : Regs) : Prop := r.done = false ∧ ∀ t, r.lastTs = some t → t < ts

/-- The next input is this sample, its control lines being `rw` and `sync` (R62). -/
def NextSample (s : State) (m : Sample) (rw sync : Bool) (rest : List Input) : Prop :=
  s.pending = .sample m :: rest ∧ m.rw = .ofBit rw ∧ m.sync = .ofBit sync

/-- The next input ends the running span: a fetch sample or END, in a machine that has seen a fetch (R91, R186). -/
def EndsSpan (s : State) : Prop :=
  s.seen = true ∧
    ∃ inp rest, s.pending = inp :: rest ∧ (inp = .endOfCapture ∨ ∃ m, inp = .sample m ∧ m.sync = .one)

/-! ## One retire -/

/-- A descriptor's fields that the emulator is offered (R201). For an unknown opcode they are those R77 names; it names no
transfer-function reference, and none is offered (log 16). -/
def offeredFields : ByteX → Text × Mode × Bool × Option Text
  | some b => ((optable b).mnemonic, (optable b).mode, (optable b).earlyWrite, (optable b).xfer)
  | none => (txt "???", .imp, false, none)

/-- Every value R201 lists, for the retire of the span in `s` with class `c` and event `e`, which writes `pc'` to PC. -/
def offeredNotice (s : State) (c : RunClass) (pc' : WordX) (e : InstrEvent) : Notice :=
  { kind := e.kind, cls := c, ir := e.ir, mnemonic := (offeredFields e.ir).1, mode := (offeredFields e.ir).2.1,
    early := (offeredFields e.ir).2.2.1, xfer := (offeredFields e.ir).2.2.2, op1 := e.op1, op2 := e.op2, nops := s.nops,
    wcnt := s.wcnt, ncyc := s.ncyc, nb0 := s.nb0, nb1 := s.nb1, nb2 := s.nb2, oldPc := s.pc, newPc := pc' }

/-- From `s` to `t`: one instruction event was emitted and PC written, nothing else (R110, R111); one notification was
offered, with every value of R201, the class being `c`. -/
def RetiresTo (s t : State) (c : RunClass) (pc' : WordX) (e : InstrEvent) : Prop :=
  t.toRegs = { s.toRegs with pc := pc' } ∧
  t.events = s.events ++ [.instr e] ∧
  t.notices = s.notices ++ [offeredNotice s c pc' e] ∧
  t.pending = s.pending ∧ t.endTs = s.endTs

/-- The instruction event of kind INSN of the span in `s`, for opcode byte `b` with these operands and display target: the
old PC, one space, the filled template `body` (R183). -/
def insnLine (s : State) (b : Byte) (o1 o2 : ByteX) (tgt : WordX) (body : Text) : InstrEvent :=
  { start := s.fetchTs, stop := s.endTs, kind := .insn, pc := s.pc, ir := some b, op1 := o1, op2 := o2, tgt := tgt,
    text := hex4 defaultParams s.pc ++ ' ' :: body }

/-- From `s` to `t`: the two events of one sample were emitted, and no other, the phase event with the text `name` (R98 c,
R181, R182). -/
def ShowsSample (s t : State) (d : ByteX) (ts : Nat) (p : Phase) (name : String) : Prop :=
  t.events = s.events ++
    [.data ts (ts + 1) d (hex2 defaultParams d), .phaseEv ts (ts + 1) p (txt name)] ∧
  t.notices = s.notices ∧ t.pending = s.pending ∧ t.endTs = s.endTs

/-! ## The event sequence -/

/-- The instruction event of an event, if it is one. -/
def Event.instr? : Event → Option InstrEvent
  | .instr e => some e
  | .data .. => none
  | .phaseEv .. => none

/-- The instruction events of a sequence, in order. -/
def instrEvents (es : List Event) : List InstrEvent := es.filterMap Event.instr?

/-- An event is a Data event. -/
def Event.isData : Event → Bool
  | .data .. => true
  | .phaseEv .. => false
  | .instr _ => false

/-- An event is a phase event. -/
def Event.isPhase : Event → Bool
  | .data .. => false
  | .phaseEv .. => true
  | .instr _ => false

/-- An event is the phase event of a fetch sample. -/
def Event.isFetch : Event → Bool
  | .data .. => false
  | .phaseEv _ _ p _ => decide (p = .fetch)
  | .instr _ => false

/-- Every span is nonempty and each starts where the one before it ended (R187 item 3). -/
def Chained : List InstrEvent → Prop
  | [] => True
  | [e] => e.start < e.stop
  | e :: f :: es => e.start < e.stop ∧ e.stop = f.start ∧ Chained (f :: es)

/-- The instruction events tile the time axis up to the start of the running span (R187 item 3). -/
structure EventsTile (s : State) : Prop where
  chained : Chained (instrEvents s.events)
  upToFetch : s.seen = true → s.done = false → ∀ e, (instrEvents s.events).getLast? = some e → e.stop = s.fetchTs
  noneBefore : s.seen = false → instrEvents s.events = []

/-- The numbers of events agree with the numbers of samples and of fetch samples (R187 items 1 and 2). -/
structure EventsCount (s : State) : Prop where
  dataPhase : s.events.countP Event.isData = s.events.countP Event.isPhase
  instrFetch : (instrEvents s.events).length + (if s.seen && !s.done then 1 else 0) = s.events.countP Event.isFetch

/-- Each notification starts from the PC the one before it left. -/
def PcLinked : List Notice → Prop
  | [] => True
  | [_] => True
  | n :: m :: ns => n.newPc = m.oldPc ∧ PcLinked (m :: ns)

/-- Each instruction event shows the PC that the retire before it wrote, the first one shows `pcReset`, and PC is what the
last retire wrote, `pcReset` before any (R111, R187 item 5). -/
structure PcHistory (pcReset : WordX) (s : State) : Prop where
  shown : (instrEvents s.events).map InstrEvent.pc = s.notices.map Notice.oldPc
  first : ∀ e, (instrEvents s.events).head? = some e → e.pc = pcReset
  untouched : instrEvents s.events = [] → s.pc = pcReset
  linked : PcLinked s.notices
  last : ∀ n, s.notices.getLast? = some n → n.newPc = s.pc

/-- An operand can no longer be captured in the running span of an instruction that is not the call: the chain fetch, read,
read is broken (R99). -/
def CaptureBroken (r : Regs) : Prop :=
  isCall defaultParams r.ir = false ∧ r.phase ≠ .fetch ∧ r.phase ≠ .operand1

/-! ## Rows of the input -/

/-- The condition of each READ row on PHASE, REM and CALL (R93 to R97, in the order of R100). The other rows test nothing of
the state. -/
def Selected (r : Regs) : Instr → Prop
  | .sampleReadOperand1 .. => r.phase = .fetch ∧ 0 < r.rem
  | .sampleReadOperand2 .. => r.phase = .operand1 ∧ 0 < r.rem ∧ isCall defaultParams r.ir = false
  | .sampleReadCallDummy .. => r.phase = .operand1 ∧ 0 < r.rem ∧ isCall defaultParams r.ir = true
  | .sampleReadCallOperand2 .. =>
    r.phase ≠ .fetch ∧ r.phase ≠ .operand1 ∧ 0 < r.rem ∧ isCall defaultParams r.ir = true
  | .sampleReadMemoryRead .. =>
    r.rem = 0 ∨ (r.phase ≠ .fetch ∧ r.phase ≠ .operand1 ∧ isCall defaultParams r.ir = false)
  | _ => True

/-- The five outcomes of a READ sample (R93 to R97). -/
def readRows (d : ByteX) (ts : Nat) : List Instr :=
  [.sampleReadOperand1 d ts, .sampleReadOperand2 d ts, .sampleReadCallDummy d ts, .sampleReadCallOperand2 d ts,
   .sampleReadMemoryRead d ts]

end Sys2Proof.Safety
end

