-- ==== Sys2Proof/Certificates/Slice0/Obligations.lean ====
section
/-! DEFINITION. The statements for the provers. Each docstring names the rules of spec/ it formalises. -/

open Sys2Proof Sys2Proof.Machine Sys2Proof.Safety

/-! ## Reset and construction -/

/-- R29: the register values before the first input, for every PC_RESET. -/
def Obligations.ResetLeavesEveryRegister : Prop :=
  ∀ p : WordX, (State.resetWith p).toRegs =
    { phase := .memoryRead, seen := false, ir := none, op1 := none, op2 := none, nops := 0, rem := 0, wcnt := 0, ncyc := 0,
      fetchTs := 0, lastTs := none, pc := p, nb0 := none, nb1 := none, nb2 := none, done := false }

/-- R222 code 4, R221, R72: tables that lack a row, have a length outside 1 to 3, break the two rows the document gives, or
break R71 between the class and the mode of a row, are refused at construction. Which constraints R71 puts on those two fields
is the model's reading (log 11). -/
def Obligations.ConstructionRefusesBadTables : Prop :=
  ∀ (ops : OpCandidate) (modes : ModeCandidate) (p : WordX),
    ((∃ b, ops b = none) ∨ (∃ m, modes m = none) ∨
      (∃ m row, modes m = some row ∧ (row.length < 1 ∨ 3 < row.length)) ∨
      (∃ d, ops 0xA9 = some d ∧ (d.mnemonic ≠ txt "LDA" ∨ d.mode ≠ .imm)) ∨
      (∃ d, ops 0x00 = some d ∧ d.cls ≠ .brk) ∨
      (∃ b d, ops b = some d ∧ d.cls = .jmpind ∧ d.mode ≠ .ind ∧ d.mode ≠ .iax) ∨
      (∃ b d, ops b = some d ∧ d.cls = .jmpabs ∧ d.mode ≠ .abs) ∨
      (∃ b d, ops b = some d ∧ d.cls = .branch ∧ d.mode ≠ .rel) ∨
      (∃ b d, ops b = some d ∧ (d.cls = .rts ∨ d.cls = .seq) ∧ d.mode = .rel)) →
    construct ops modes p = .refused .tableNotTotal

/-- R250, R72: the default tables pass the check, so construction with them is the reset state. -/
def Obligations.DefaultTablesConstruct : Prop :=
  ∀ p : WordX, construct (fun b => some (optable b)) (fun m => some (modetable m)) p = .next (State.resetWith p)

/-! ## Encodings -/

/-- R63, R73, R77: decoding the bytes of an instruction gives it back, with every operand at every value, X included. -/
def Obligations.DecodeInvertsEncode : Prop :=
  ∀ (i : Instr) (bytes rest : List ByteX), encode i = some bytes → decode (bytes ++ rest) = .ok (i, rest)

/-- R63, R76, R77: whatever bytes decode to an instruction are its encoding followed by the rest; every opcode byte followed
by two bytes decodes. -/
def Obligations.EncodeInvertsDecode : Prop :=
  (∀ (bytes rest : List ByteX) (i : Instr), decode bytes = .ok (i, rest) → ∃ own, encode i = some own ∧ bytes = own ++ rest) ∧
  (∀ ir o1 o2 : ByteX, ∃ i rest, decode [ir, o1, o2] = .ok (i, rest))

/-- R63, R73: words written out from the map decode to the instruction they stand for, at least one of each of the sixteen
modes and of each control-flow class, and a reserved one. The first has fewer bits than its instruction: that those above are
0 is the model's layout of a short word (log 10). -/
def Obligations.TableWordsDecode : Prop :=
  decodeTableWord 8 0b10101001 = some (.ldaImm (some 0)) ∧
  decodeTableWord 16 0b01000010_10101001 = some (.ldaImm (some 0x42)) ∧
  decodeTableWord 24 0b00010010_00110100_10101101 = some (.ldaAbs (some 0x34) (some 0x12)) ∧
  decodeTableWord 24 0b00010010_00110100_10111101 = some (.ldaAbx (some 0x34) (some 0x12)) ∧
  decodeTableWord 24 0b00010010_00110100_10111001 = some (.ldaAby (some 0x34) (some 0x12)) ∧
  decodeTableWord 24 0b00010010_00110100_01101100 = some (.jmpInd (some 0x34) (some 0x12)) ∧
  decodeTableWord 24 0b00010010_00110100_01111100 = some (.jmpIax (some 0x34) (some 0x12)) ∧
  decodeTableWord 24 0b00000110_00000000_01001100 = some (.jmpAbs (some 0x00) (some 0x06)) ∧
  decodeTableWord 16 0b00100000_10110101 = some (.ldaZpx (some 0x20)) ∧
  decodeTableWord 16 0b00100000_10110110 = some (.ldxZpy (some 0x20)) ∧
  decodeTableWord 16 0b00100000_10100001 = some (.ldaIzx (some 0x20)) ∧
  decodeTableWord 16 0b00100000_10110010 = some (.ldaIzp (some 0x20)) ∧
  decodeTableWord 8 0b01100000 = some .rts ∧
  decodeTableWord 8 0b01000000 = some .rti ∧
  decodeTableWord 8 0b00001010 = some .aslAcc ∧
  decodeTableWord 8 0b01001000 = some .pha ∧
  decodeTableWord 16 0b00010000_11100110 = some (.incZp (some 0x10)) ∧
  decodeTableWord 16 0b00100000_10110001 = some (.ldaIzy (some 0x20)) ∧
  decodeTableWord 24 0b00011010_00010000_00001111 = some (.bbr0 (some 0x10) (some 0x1A)) ∧
  decodeTableWord 24 0b00000110_00010000_00100000 = some (.jsr (some 0x10) (some 0x06)) ∧
  decodeTableWord 16 0b11111101_11010000 = some (.bne (some 0xFD)) ∧
  decodeTableWord 8 0b00000000 = some .brk ∧
  decodeTableWord 16 0b10011001_00000010 = some (.nopImm02 (some 0x99))

/-- R61: the data value of eight lines. -/
def Obligations.DataValueOfLines : Prop :=
  (∀ b7 b6 b5 b4 b3 b2 b1 b0 : Bool,
    (Lines.mk (.ofBit b7) (.ofBit b6) (.ofBit b5) (.ofBit b4) (.ofBit b3) (.ofBit b2) (.ofBit b1) (.ofBit b0)).value =
      some (BitVec.ofNat 8 (b7.toNat * 2 ^ 7 + b6.toNat * 2 ^ 6 + b5.toNat * 2 ^ 5 + b4.toNat * 2 ^ 4 + b3.toNat * 2 ^ 3 +
        b2.toNat * 2 ^ 2 + b1.toNat * 2 ^ 1 + b0.toNat * 2 ^ 0))) ∧
  (∀ l : Lines, (l.d7 = .indeterminate ∨ l.d6 = .indeterminate ∨ l.d5 = .indeterminate ∨ l.d4 = .indeterminate ∨
    l.d3 = .indeterminate ∨ l.d2 = .indeterminate ∨ l.d1 = .indeterminate ∨ l.d0 = .indeterminate) → l.value = none)

/-- R62, R100: the kind of a sample by `sync`, then `rw`; a READ has exactly one of the five outcomes, the one whose
condition holds; END is an input kind of its own. -/
def Obligations.SampleKindPriority : Prop :=
  (∀ r : Regs, inputInstr defaultParams r .endOfCapture = .ok .endOfCapture) ∧
  ∀ (r : Regs) (m : Sample) (rw : Bool), m.rw = .ofBit rw →
    (m.sync = .one → inputInstr defaultParams r (.sample m) = .ok (.sampleFetch m.d.value rw m.ts)) ∧
    (m.sync = .zero → rw = false → inputInstr defaultParams r (.sample m) = .ok (.sampleWrite m.d.value m.ts)) ∧
    (m.sync = .zero → rw = true → ∀ i ∈ readRows m.d.value m.ts,
      (inputInstr defaultParams r (.sample m) = .ok i ↔ Selected r i)) ∧
    (m.sync = .zero → rw = true → ∃ i ∈ readRows m.d.value m.ts, Selected r i)

/-- R66, R72, R73, R74, R75, R76: what the spec says of the default table, by counting: the lengths, the classes, the two rows the
document gives, and the reserved opcodes, which are NOPs of class SEQ; the five opcodes with the early-write flag; no row names a
transfer function (R201). The table itself is presumed (logs 3 and 4). -/
def Obligations.DefaultTableFacts : Prop :=
  (allBytes.countP fun b => lenOf defaultParams b == 1) = 67 ∧
  (allBytes.countP fun b => lenOf defaultParams b == 2) = 116 ∧
  (allBytes.countP fun b => lenOf defaultParams b == 3) = 73 ∧
  (allBytes.countP fun b => (optable b).cls == .seq) = 240 ∧
  (allBytes.countP fun b => (optable b).cls == .branch) = 9 ∧
  (allBytes.countP fun b => (optable b).cls == .jmpind) = 2 ∧
  (allBytes.countP fun b => (optable b).earlyWrite) = 5 ∧
  (∀ b ∈ [(0x08 : Byte), 0x20, 0x48, 0x5A, 0xDA], (optable b).earlyWrite = true) ∧
  (∀ b ∈ allBytes, (optable b).xfer = none) ∧
  (optable 0xA9).mnemonic = txt "LDA" ∧ (optable 0xA9).mode = .imm ∧ (optable 0x00).cls = .brk ∧
  reservedOpcodes.length = 44 ∧ reservedOpcodes.Nodup ∧
  ∀ b ∈ reservedOpcodes, (optable b).mnemonic = txt "NOP" ∧ (optable b).cls = .seq

/-- R185: `hex2` and `hex4` print the digits of the value's nibbles, high first, from the sixteen characters of the rule, and X
as the placeholders, so they have fixed width and tell values apart; R182, R184: the text of each phase and the number of each
category. -/
def Obligations.HexTextsFaithful : Prop :=
  (∀ b : Byte, (hex2 defaultParams (some b)).map some =
    [(txt "0123456789ABCDEF")[b.toNat / 16]?, (txt "0123456789ABCDEF")[b.toNat % 16]?]) ∧
  (∀ w : Word, (hex4 defaultParams (some w)).map some =
    [(txt "0123456789ABCDEF")[w.toNat / 4096]?, (txt "0123456789ABCDEF")[w.toNat / 256 % 16]?,
     (txt "0123456789ABCDEF")[w.toNat / 16 % 16]?, (txt "0123456789ABCDEF")[w.toNat % 16]?]) ∧
  (∀ b c : ByteX, hex2 defaultParams b = hex2 defaultParams c → b = c) ∧
  (∀ v w : WordX, hex4 defaultParams v = hex4 defaultParams w → v = w) ∧
  hex2 defaultParams none = txt "??" ∧ hex4 defaultParams none = txt "????" ∧
  (∀ p : Phase, (p, phaseName p) ∈ [(Phase.fetch, txt "Fetch"), (.operand1, txt "Operand1"), (.operand2, txt "Operand2"),
    (.memoryRead, txt "MemoryRead"), (.memoryWrite, txt "MemoryWrite")]) ∧
  (∀ (start stop : Nat) (t : Text), (∀ d : ByteX, category (.data start stop d t) = 0) ∧
    category (.phaseEv start stop .fetch t) = 1 ∧ category (.phaseEv start stop .operand1 t) = 2 ∧
    category (.phaseEv start stop .operand2 t) = 3 ∧ category (.phaseEv start stop .memoryRead t) = 4 ∧
    category (.phaseEv start stop .memoryWrite t) = 5) ∧
  (∀ e : InstrEvent, category (.instr e) = 6)

/-! ## The step -/

/-- R9, R236, R51: a step takes the first pending input: the row it selects is executed and the input consumed. A step with no
input pending answers the same state: the model's choice (log 9), since the spec has no step without an input. -/
def Obligations.StepRunsSelectedRow : Prop :=
  (∀ (s : State) (inp : Input) (rest : List Input) (i : Instr), s.pending = inp :: rest →
    inputInstr defaultParams s.toRegs inp = .ok i → step s = consume rest (exec i s)) ∧
  (∀ s : State, s.pending = [] → step s = .next s)

/-- R110, R113, R91, R186: the instruction whose bytes stand in IR, OP1, OP2 is run, through its own arm of `exec`, by the
fetch sample or END that ends its span, and before anything else that input does; a reclassified span runs RETIRE.INT. -/
def Obligations.SpanEndRunsDecodedInstruction : Prop :=
  ∀ (s : State) (i : Instr) (rest : List ByteX), s.seen = true → s.done = false →
    (decode [s.ir, s.op1, s.op2] = .ok (i, rest) ∧ (s.wcnt ≠ 3 ∨ s.ir = some 0x00 ∨ s.ir = none) ∨
      ∃ b, s.ir = some b ∧ s.wcnt = 3 ∧ b ≠ 0x00 ∧ i = .retireInt b s.op1 s.op2) →
    WellFormed i ∧
    (∀ d rw ts, Admitted ts s.toRegs →
      exec (.sampleFetch d rw ts) s =
        andThen (exec i { s with endTs := ts }) (fun t => .next (loadFetch defaultParams d ts t))) ∧
    (∀ last, s.lastTs = some last →
      exec .endOfCapture s = andThen (exec i { s with endTs := last + 1 }) (fun t => .next { t with done := true }))

/-- R90, R222, R225: an input that is not admitted is refused, with the lowest code that holds. -/
def Obligations.InputsOutsideContractRefused : Prop :=
  ∀ (s : State) (rest : List Input),
    (∀ inp, s.pending = inp :: rest → s.done = true → step s = .refused .afterEnd) ∧
    (∀ m, s.pending = .sample m :: rest → s.done = false → (m.rw = .indeterminate ∨ m.sync = .indeterminate) →
      step s = .refused .controlIndeterminate) ∧
    (∀ m t, s.pending = .sample m :: rest → s.done = false → m.rw ≠ .indeterminate → m.sync ≠ .indeterminate →
      s.lastTs = some t → m.ts ≤ t → step s = .refused .timestampOrder)

/-- R220, R100, R61: every admitted input has a next state, whatever its data value and whatever the state. -/
def Obligations.AdmittedInputsStep : Prop :=
  ∀ (s : State) (rest : List Input),
    (∀ m, s.pending = .sample m :: rest → Admitted m.ts s.toRegs → m.rw ≠ .indeterminate → m.sync ≠ .indeterminate →
      ∃ t, step s = .next t ∧ t.pending = rest ∧ t.lastTs = some m.ts) ∧
    (s.pending = .endOfCapture :: rest → s.done = false → ∃ t, step s = .next t ∧ t.pending = rest ∧ t.done = true)

/-! ## The classifier -/

/-- R91: a sample with sync = 1 is a FETCH, whatever `rw`; it retires the running span if SEEN = 1, with end `ts`, then loads
the span registers; NB and DONE are not written, PC only by the retire; Data and PhaseEv follow the instruction event. -/
def Obligations.FetchRetiresThenLoads : Prop :=
  (∀ (r : Regs) (m : Sample) (rw : Bool), m.sync = .one → m.rw = .ofBit rw →
    inputInstr defaultParams r (.sample m) = .ok (.sampleFetch m.d.value rw m.ts)) ∧
  ∀ (d : ByteX) (rw : Bool) (ts : Nat) (s : State), Admitted ts s.toRegs →
    ∃ u t, exec (.sampleFetch d rw ts) s = .next t ∧
      (s.seen = false → u = s) ∧
      (s.seen = true → exec (retiring s.toRegs) { s with endTs := ts } = .next u ∧ u.toRegs = { s.toRegs with pc := u.pc }) ∧
      t.toRegs = { u.toRegs with ir := d, rem := lenX defaultParams d - 1, wcnt := 0, phase := .fetch, op1 := none,
                                 op2 := none, nops := 0, fetchTs := ts, ncyc := 1, seen := true, lastTs := some ts } ∧
      ShowsSample u t d ts .fetch "Fetch"

/-- R92: a sample with sync = 0 and rw = 0 is a WRITE: it counts, and keeps nothing of the data value. -/
def Obligations.WriteCountsAndShows : Prop :=
  (∀ (r : Regs) (m : Sample), m.sync = .zero → m.rw = .zero →
    inputInstr defaultParams r (.sample m) = .ok (.sampleWrite m.d.value m.ts)) ∧
  ∀ (d : ByteX) (ts : Nat) (s : State), Admitted ts s.toRegs →
    ∃ t, exec (.sampleWrite d ts) s = .next t ∧
      t.toRegs = { s.toRegs with phase := .memoryWrite, wcnt := s.wcnt + 1, ncyc := s.ncyc + 1, lastTs := some ts } ∧
      ShowsSample s t d ts .memoryWrite "MemoryWrite"

/-- R93: a READ with PHASE = Fetch and REM > 0 is Operand1, for call and other instructions alike. -/
def Obligations.ReadAfterFetchIsOperand1 : Prop :=
  (∀ (r : Regs) (m : Sample), m.sync = .zero → m.rw = .one → r.phase = .fetch → 0 < r.rem →
    inputInstr defaultParams r (.sample m) = .ok (.sampleReadOperand1 m.d.value m.ts)) ∧
  (∀ (d : ByteX) (ts : Nat) (s : State), Admitted ts s.toRegs →
    ∃ t, exec (.sampleReadOperand1 d ts) s = .next t ∧
      t.toRegs = { s.toRegs with phase := .operand1, op1 := d, nops := 1, rem := s.rem - 1, ncyc := s.ncyc + 1,
                                 lastTs := some ts } ∧
      ShowsSample s t d ts .operand1 "Operand1")

/-- R94: a READ with PHASE = Operand1 and REM > 0 is Operand2, unless the instruction is the call. -/
def Obligations.ReadAfterOperand1IsOperand2 : Prop :=
  (∀ (r : Regs) (m : Sample), m.sync = .zero → m.rw = .one → r.phase = .operand1 → 0 < r.rem →
    isCall defaultParams r.ir = false →
    inputInstr defaultParams r (.sample m) = .ok (.sampleReadOperand2 m.d.value m.ts)) ∧
  (∀ (d : ByteX) (ts : Nat) (s : State), Admitted ts s.toRegs →
    ∃ t, exec (.sampleReadOperand2 d ts) s = .next t ∧
      t.toRegs = { s.toRegs with phase := .operand2, op2 := d, nops := 2, rem := s.rem - 1, ncyc := s.ncyc + 1,
                                 lastTs := some ts } ∧
      ShowsSample s t d ts .operand2 "Operand2")

/-- R95, R24: the call's dummy read is MemoryRead and is folded; REM, OP2 and NOPS stay. -/
def Obligations.CallDummyReadFolds : Prop :=
  (∀ (r : Regs) (m : Sample), m.sync = .zero → m.rw = .one → r.phase = .operand1 → 0 < r.rem →
    isCall defaultParams r.ir = true →
    inputInstr defaultParams r (.sample m) = .ok (.sampleReadCallDummy m.d.value m.ts)) ∧
  (∀ (d : ByteX) (ts : Nat) (s : State), Admitted ts s.toRegs →
    ∃ t, exec (.sampleReadCallDummy d ts) s = .next t ∧
      t.toRegs = { s.toRegs with phase := .memoryRead, nb0 := s.nb1, nb1 := s.nb2, nb2 := d, ncyc := s.ncyc + 1,
                                 lastTs := some ts } ∧
      ShowsSample s t d ts .memoryRead "MemoryRead")

/-- R96: the call's deferred second operand, from PHASE = MemoryRead, MemoryWrite or any other phase outside the chain; the
accumulator is not touched. -/
def Obligations.CallDeferredOperand2 : Prop :=
  (∀ (r : Regs) (m : Sample), m.sync = .zero → m.rw = .one → r.phase ≠ .fetch → r.phase ≠ .operand1 → 0 < r.rem →
    isCall defaultParams r.ir = true →
    inputInstr defaultParams r (.sample m) = .ok (.sampleReadCallOperand2 m.d.value m.ts)) ∧
  (∀ (d : ByteX) (ts : Nat) (s : State), Admitted ts s.toRegs →
    ∃ t, exec (.sampleReadCallOperand2 d ts) s = .next t ∧
      t.toRegs = { s.toRegs with phase := .operand2, op2 := d, nops := 2, rem := s.rem - 1, ncyc := s.ncyc + 1,
                                 lastTs := some ts } ∧
      ShowsSample s t d ts .operand2 "Operand2")

/-- R97, R24: every other READ is MemoryRead and is folded: any read when REM = 0, any read outside the chain on an
instruction that is not the call. -/
def Obligations.OtherReadsFold : Prop :=
  (∀ (r : Regs) (m : Sample), m.sync = .zero → m.rw = .one →
    (r.rem = 0 ∨ (r.phase ≠ .fetch ∧ r.phase ≠ .operand1 ∧ isCall defaultParams r.ir = false)) →
    inputInstr defaultParams r (.sample m) = .ok (.sampleReadMemoryRead m.d.value m.ts)) ∧
  (∀ (d : ByteX) (ts : Nat) (s : State), Admitted ts s.toRegs →
    ∃ t, exec (.sampleReadMemoryRead d ts) s = .next t ∧
      t.toRegs = { s.toRegs with phase := .memoryRead, nb0 := s.nb1, nb1 := s.nb2, nb2 := d, ncyc := s.ncyc + 1,
                                 lastTs := some ts } ∧
      ShowsSample s t d ts .memoryRead "MemoryRead")

/-- R99: once the chain fetch, read, read of an instruction that is not the call is broken, no sample of the span captures
an operand, and the chain stays broken until the next fetch. -/
def Obligations.BrokenCaptureStaysBroken : Prop :=
  ∀ (s t : State) (m : Sample) (rest : List Input), s.pending = .sample m :: rest → m.sync = .zero →
    CaptureBroken s.toRegs → step s = .next t →
    CaptureBroken t.toRegs ∧ t.op1 = s.op1 ∧ t.op2 = s.op2 ∧ t.rem = s.rem ∧ t.nops = s.nops

/-- R101 (the document's boundary property of the call): opcode, operand 1, one read, two writes, operand 2 are classified
Fetch, Operand1, MemoryRead, MemoryWrite, MemoryWrite, Operand2, and at END the program counter is `(o2 << 8) | o1`. -/
def Obligations.CallShapeClassified : Prop :=
  ∀ (p : WordX) (o1 o2 : Byte) (dummy w1 w2 : ByteX),
    ∃ t, core.run 7
        { State.resetWith p with pending :=
          [.sample (mkSample (some 0x20) true true 0), .sample (mkSample (some o1) true false 1),
           .sample (mkSample dummy true false 2), .sample (mkSample w1 false false 3), .sample (mkSample w2 false false 4),
           .sample (mkSample (some o2) true false 5), .endOfCapture] } = .next t ∧
      t.pc = some (o2 ++ o1) ∧
      t.events.filterMap (fun e => match e with | .phaseEv _ _ ph _ => some ph | _ => none) =
        [.fetch, .operand1, .memoryRead, .memoryWrite, .memoryWrite, .operand2]

/-- R91, R93, R94, R183, R186 (the document's round-trip property): a fetch of an opcode other than the call, then length - 1
reads, then END, give exactly one instruction event, over all the samples, with the old PC and the filled template. -/
def Obligations.WholeSpanGivesOneLine : Prop :=
  ∀ (p : WordX) (b : Byte) (x1 x2 : ByteX), (optable b).cls ≠ .jsr →
    ∃ t, core.run (lenOf defaultParams b + 1)
        { State.resetWith p with pending :=
          (.sample (mkSample (some b) true true 0) ::
            [.sample (mkSample x1 true false 1), .sample (mkSample x2 true false 2)].take (lenOf defaultParams b - 1)) ++
          [.endOfCapture] } = .next t ∧
      ∃ e, instrEvents t.events = [e] ∧ e.start = 0 ∧ e.stop = lenOf defaultParams b ∧ e.kind = .insn ∧ e.ir = some b ∧
        e.pc = p ∧ e.text = hex4 defaultParams p ++ ' ' ::
          fillTemplate defaultParams (optable b).mnemonic (if 2 ≤ lenOf defaultParams b then x1 else none)
            (if 3 ≤ lenOf defaultParams b then x2 else none) e.tgt (modetable (optable b).mode).template

/-! ## The retire of a span: interrupts, breaks, control flow -/

/-- R112, R122, R166: for every opcode byte but 0x00 whose span had exactly three writes, the row's meaning is that of
RETIRE.INT with the same bytes, an operand the row does not carry being its register (log 7). -/
def Obligations.ThreeWritesReclassify : Prop :=
  ∀ (b : Byte) (o1 o2 : ByteX) (s : State), b ≠ 0x00 → s.wcnt = 3 →
    exec (rowInstr b o1 o2) s =
      exec (.retireInt b (if 2 ≤ lenOf defaultParams b then o1 else s.op1)
        (if 3 ≤ lenOf defaultParams b then o2 else s.op2)) s

/-- R166, R114, R183: the retire of a reclassified interrupt: PC from the last two MemoryRead bytes, kind INT, the mnemonic
replaced by INT in the template of the fetched opcode's mode. -/
def Obligations.InterruptRetire : Prop :=
  ∀ (b : Byte) (o1 o2 : ByteX) (s : State),
    ∃ t, exec (.retireInt b o1 o2) s = .next t ∧
      RetiresTo s t .int (map2X (fun high low : Byte => high ++ low) s.nb2 s.nb1)
        { start := s.fetchTs, stop := s.endTs, kind := .int, pc := s.pc, ir := some b, op1 := o1, op2 := o2,
          tgt := displayTarget defaultParams s.pc (some b) o1 o2,
          text := hex4 defaultParams s.pc ++ ' ' ::
            fillTemplate defaultParams (txt "INT") o1 o2 (displayTarget defaultParams s.pc (some b) o1 o2)
              (modetable (optable b).mode).template }

/-- R165, R114: the software break, whatever the write count: never reclassified, PC from the last two MemoryRead bytes. -/
def Obligations.BreakRetire : Prop :=
  ∀ s : State, ∃ t, exec .brk s = .next t ∧
    RetiresTo s t (.table .brk) (map2X (fun high low : Byte => high ++ low) s.nb2 s.nb1)
      (insnLine s 0x00 s.op1 s.op2 none (txt "BRK"))

/-- R164, R114, R228: return from interrupt: the last two MemoryRead bytes, with no plus one, and nothing else restored. -/
def Obligations.ReturnFromInterruptRetire : Prop :=
  ∀ s : State, s.wcnt ≠ 3 → ∃ t, exec .rti s = .next t ∧
    RetiresTo s t (.table .rti) (map2X (fun high low : Byte => high ++ low) s.nb2 s.nb1)
      (insnLine s 0x40 s.op1 s.op2 none (txt "RTI"))

/-- R152, R153, R114: the two indirect jumps: PC from the last two MemoryRead bytes; the operands are only shown. -/
def Obligations.IndirectJumpsRetire : Prop :=
  ∀ (o1 o2 : ByteX) (s : State), s.wcnt ≠ 3 →
    (∃ t, exec (.jmpInd o1 o2) s = .next t ∧
      RetiresTo s t (.table .jmpind) (map2X (fun high low : Byte => high ++ low) s.nb2 s.nb1)
        (insnLine s 0x6C o1 o2 none
          (txt "JMP (" ++ hex2 defaultParams o2 ++ hex2 defaultParams o1 ++ txt ")"))) ∧
    (∃ t, exec (.jmpIax o1 o2) s = .next t ∧
      RetiresTo s t (.table .jmpind) (map2X (fun high low : Byte => high ++ low) s.nb2 s.nb1)
        (insnLine s 0x7C o1 o2 none
          (txt "JMP (" ++ hex2 defaultParams o2 ++ hex2 defaultParams o1 ++ txt ",X)")))

/-- R115, R150, R151: call and absolute jump: PC is `(OP2 << 8) | OP1`, X if either is X; the old PC is not used. -/
def Obligations.CallAndJumpRetire : Prop :=
  ∀ (o1 o2 : ByteX) (s : State), s.wcnt ≠ 3 →
    (∃ t, exec (.jsr o1 o2) s = .next t ∧
      RetiresTo s t (.table .jsr)
        (map2X (fun high low : Byte => BitVec.ofNat 16 (high.toNat * 256 + low.toNat)) o2 o1)
        (insnLine s 0x20 o1 o2 none (txt "JSR " ++ hex2 defaultParams o2 ++ hex2 defaultParams o1))) ∧
    (∃ t, exec (.jmpAbs o1 o2) s = .next t ∧
      RetiresTo s t (.table .jmpabs)
        (map2X (fun high low : Byte => BitVec.ofNat 16 (high.toNat * 256 + low.toNat)) o2 o1)
        (insnLine s 0x4C o1 o2 none (txt "JMP " ++ hex2 defaultParams o2 ++ hex2 defaultParams o1)))

/-- R117, R163: return from subroutine: LO16 plus one modulo 65536, X if NB[0] or NB[1] is X; NB[2] and the old PC are not
used. -/
def Obligations.ReturnFromSubroutineRetire : Prop :=
  ∀ s : State, s.wcnt ≠ 3 → ∃ t, exec .rts s = .next t ∧
    RetiresTo s t (.table .rts)
      (map2X (fun high low : Byte => BitVec.ofNat 16 ((high.toNat * 256 + low.toNat + 1) % 65536)) s.nb1 s.nb0)
      (insnLine s 0x60 s.op1 s.op2 none (txt "RTS"))

/-- R169, R116, R118, R121: the nine relative branches: taken when the span has more than two samples, else PC + 2; the
target is shown in both cases. -/
def Obligations.BranchesRetire : Prop :=
  ∀ row ∈ branchRows, ∀ (o1 : ByteX) (s : State), s.wcnt ≠ 3 →
    ∃ t, exec (row.instr o1) s = .next t ∧
      RetiresTo s t (.table .branch)
        (if 2 < s.ncyc then
          map2X (fun (pc : Word) (d : Byte) => BitVec.ofInt 16 ((pc.toNat : Int) + d.toInt + 2)) s.pc o1
        else s.pc.map fun pc => BitVec.ofNat 16 (pc.toNat + 2))
        (insnLine s row.byte o1 s.op2 (displace s.pc 2 o1)
          (row.mnemonic ++ ' ' :: hex4 defaultParams (displace s.pc 2 o1)))

/-! ## The retire of a span: the sequential modes -/

/-- R130, R118: mode IMP. -/
def Obligations.ImpliedRowsRetire : Prop :=
  ∀ row ∈ impRows, ∀ s : State,
    encode row.instr = some [some row.byte] ∧
    (s.wcnt ≠ 3 → ∃ t, exec row.instr s = .next t ∧
      RetiresTo s t (.table .seq) (s.pc.map fun pc => BitVec.ofNat 16 (pc.toNat + 1))
        (insnLine s row.byte s.op1 s.op2 none row.mnemonic))

/-- R131, R118: mode ACC. -/
def Obligations.AccumulatorRowsRetire : Prop :=
  ∀ row ∈ accRows, ∀ s : State,
    encode row.instr = some [some row.byte] ∧
    (s.wcnt ≠ 3 → ∃ t, exec row.instr s = .next t ∧
      RetiresTo s t (.table .seq) (s.pc.map fun pc => BitVec.ofNat 16 (pc.toNat + 1))
        (insnLine s row.byte s.op1 s.op2 none (row.mnemonic ++ txt " A")))

/-- R132, R118: mode IMM. -/
def Obligations.ImmediateRowsRetire : Prop :=
  ∀ row ∈ immRows, ∀ (o1 : ByteX) (s : State),
    encode (row.instr o1) = some [some row.byte, o1] ∧
    (s.wcnt ≠ 3 → ∃ t, exec (row.instr o1) s = .next t ∧
      RetiresTo s t (.table .seq) (s.pc.map fun pc => BitVec.ofNat 16 (pc.toNat + 2))
        (insnLine s row.byte o1 s.op2 none (row.mnemonic ++ txt " #" ++ hex2 defaultParams o1)))

/-- R133, R118: mode ZP. -/
def Obligations.ZeroPageRowsRetire : Prop :=
  ∀ row ∈ zpRows, ∀ (o1 : ByteX) (s : State),
    encode (row.instr o1) = some [some row.byte, o1] ∧
    (s.wcnt ≠ 3 → ∃ t, exec (row.instr o1) s = .next t ∧
      RetiresTo s t (.table .seq) (s.pc.map fun pc => BitVec.ofNat 16 (pc.toNat + 2))
        (insnLine s row.byte o1 s.op2 none (row.mnemonic ++ txt " " ++ hex2 defaultParams o1)))

/-- R134, R118: mode ZPX. -/
def Obligations.ZeroPageXRowsRetire : Prop :=
  ∀ row ∈ zpxRows, ∀ (o1 : ByteX) (s : State),
    encode (row.instr o1) = some [some row.byte, o1] ∧
    (s.wcnt ≠ 3 → ∃ t, exec (row.instr o1) s = .next t ∧
      RetiresTo s t (.table .seq) (s.pc.map fun pc => BitVec.ofNat 16 (pc.toNat + 2))
        (insnLine s row.byte o1 s.op2 none (row.mnemonic ++ txt " " ++ hex2 defaultParams o1 ++ txt ",X")))

/-- R135, R118: mode ZPY. -/
def Obligations.ZeroPageYRowsRetire : Prop :=
  ∀ row ∈ zpyRows, ∀ (o1 : ByteX) (s : State),
    encode (row.instr o1) = some [some row.byte, o1] ∧
    (s.wcnt ≠ 3 → ∃ t, exec (row.instr o1) s = .next t ∧
      RetiresTo s t (.table .seq) (s.pc.map fun pc => BitVec.ofNat 16 (pc.toNat + 2))
        (insnLine s row.byte o1 s.op2 none (row.mnemonic ++ txt " " ++ hex2 defaultParams o1 ++ txt ",Y")))

/-- R136, R118: mode IZX. -/
def Obligations.IndexedIndirectRowsRetire : Prop :=
  ∀ row ∈ izxRows, ∀ (o1 : ByteX) (s : State),
    encode (row.instr o1) = some [some row.byte, o1] ∧
    (s.wcnt ≠ 3 → ∃ t, exec (row.instr o1) s = .next t ∧
      RetiresTo s t (.table .seq) (s.pc.map fun pc => BitVec.ofNat 16 (pc.toNat + 2))
        (insnLine s row.byte o1 s.op2 none (row.mnemonic ++ txt " (" ++ hex2 defaultParams o1 ++ txt ",X)")))

/-- R137, R118: mode IZY. -/
def Obligations.IndirectIndexedRowsRetire : Prop :=
  ∀ row ∈ izyRows, ∀ (o1 : ByteX) (s : State),
    encode (row.instr o1) = some [some row.byte, o1] ∧
    (s.wcnt ≠ 3 → ∃ t, exec (row.instr o1) s = .next t ∧
      RetiresTo s t (.table .seq) (s.pc.map fun pc => BitVec.ofNat 16 (pc.toNat + 2))
        (insnLine s row.byte o1 s.op2 none (row.mnemonic ++ txt " (" ++ hex2 defaultParams o1 ++ txt "),Y")))

/-- R138, R118: mode IZP. -/
def Obligations.ZeroPageIndirectRowsRetire : Prop :=
  ∀ row ∈ izpRows, ∀ (o1 : ByteX) (s : State),
    encode (row.instr o1) = some [some row.byte, o1] ∧
    (s.wcnt ≠ 3 → ∃ t, exec (row.instr o1) s = .next t ∧
      RetiresTo s t (.table .seq) (s.pc.map fun pc => BitVec.ofNat 16 (pc.toNat + 2))
        (insnLine s row.byte o1 s.op2 none (row.mnemonic ++ txt " (" ++ hex2 defaultParams o1 ++ txt ")")))

/-- R139, R118: mode ABS. -/
def Obligations.AbsoluteRowsRetire : Prop :=
  ∀ row ∈ absRows, ∀ (o1 o2 : ByteX) (s : State),
    encode (row.instr o1 o2) = some [some row.byte, o1, o2] ∧
    (s.wcnt ≠ 3 → ∃ t, exec (row.instr o1 o2) s = .next t ∧
      RetiresTo s t (.table .seq) (s.pc.map fun pc => BitVec.ofNat 16 (pc.toNat + 3))
        (insnLine s row.byte o1 o2 none
          (row.mnemonic ++ txt " " ++ hex2 defaultParams o2 ++ hex2 defaultParams o1)))

/-- R140, R118: mode ABX. -/
def Obligations.AbsoluteXRowsRetire : Prop :=
  ∀ row ∈ abxRows, ∀ (o1 o2 : ByteX) (s : State),
    encode (row.instr o1 o2) = some [some row.byte, o1, o2] ∧
    (s.wcnt ≠ 3 → ∃ t, exec (row.instr o1 o2) s = .next t ∧
      RetiresTo s t (.table .seq) (s.pc.map fun pc => BitVec.ofNat 16 (pc.toNat + 3))
        (insnLine s row.byte o1 o2 none
          (row.mnemonic ++ txt " " ++ hex2 defaultParams o2 ++ hex2 defaultParams o1 ++ txt ",X")))

/-- R141, R118: mode ABY. -/
def Obligations.AbsoluteYRowsRetire : Prop :=
  ∀ row ∈ abyRows, ∀ (o1 o2 : ByteX) (s : State),
    encode (row.instr o1 o2) = some [some row.byte, o1, o2] ∧
    (s.wcnt ≠ 3 → ∃ t, exec (row.instr o1 o2) s = .next t ∧
      RetiresTo s t (.table .seq) (s.pc.map fun pc => BitVec.ofNat 16 (pc.toNat + 3))
        (insnLine s row.byte o1 o2 none
          (row.mnemonic ++ txt " " ++ hex2 defaultParams o2 ++ hex2 defaultParams o1 ++ txt ",Y")))

/-- R142, R168, R121: mode ZPR: PC + 3 whatever the span length, the target of the displacement in operand 2 shown. -/
def Obligations.BitBranchRowsRetire : Prop :=
  ∀ row ∈ zprRows, ∀ (o1 o2 : ByteX) (s : State),
    encode (row.instr o1 o2) = some [some row.byte, o1, o2] ∧
    (s.wcnt ≠ 3 → ∃ t, exec (row.instr o1 o2) s = .next t ∧
      RetiresTo s t (.table .seq) (s.pc.map fun pc => BitVec.ofNat 16 (pc.toNat + 3))
        (insnLine s row.byte o1 o2 (displace s.pc 3 o2)
          (row.mnemonic ++ txt " " ++ hex2 defaultParams o1 ++ ',' :: hex4 defaultParams (displace s.pc 3 o2))))

/-! ## Unknown values -/

/-- R167, R119, R77: the retire of an unknown opcode, whatever the write count: PC becomes X, text `<PC> ???`, kind INSN; that the
notification offers no transfer function is the model's choice (log 16). -/
def Obligations.UnknownOpcodeRetire : Prop :=
  ∀ s : State, ∃ t, exec .retireUnknown s = .next t ∧
    RetiresTo s t .unknown none
      { start := s.fetchTs, stop := s.endTs, kind := .insn, pc := s.pc, ir := none, op1 := s.op1, op2 := s.op2, tgt := none,
        text := hex4 defaultParams s.pc ++ txt " ???" }

/-- R120: the new PC is X exactly when a value that its rule reads is X, for each class. -/
def Obligations.PcUnknownExactlyWhenReadUnknown : Prop :=
  ∀ (ir op1 op2 : ByteX) (r : Regs),
    (∀ c ∈ [RunClass.table .rti, .table .brk, .table .jmpind, .int],
      (newPc defaultParams c ir op1 op2 r = none ↔ r.nb1 = none ∨ r.nb2 = none)) ∧
    (∀ c ∈ [RunClass.table .jsr, .table .jmpabs],
      (newPc defaultParams c ir op1 op2 r = none ↔ op1 = none ∨ op2 = none)) ∧
    (newPc defaultParams (.table .branch) ir op1 op2 r = none ↔ r.pc = none ∨ (2 < r.ncyc ∧ op1 = none)) ∧
    (newPc defaultParams (.table .rts) ir op1 op2 r = none ↔ r.nb0 = none ∨ r.nb1 = none) ∧
    (newPc defaultParams (.table .seq) ir op1 op2 r = none ↔ r.pc = none) ∧
    newPc defaultParams .unknown ir op1 op2 r = none

/-- R121: the display target, by the mode of the opcode. -/
def Obligations.DisplayTargetByMode : Prop :=
  ∀ (pc : WordX) (ir op1 op2 : ByteX),
    (∀ b, ir = some b → (optable b).mode = .rel → displayTarget defaultParams pc ir op1 op2 =
      map2X (fun (p : Word) (d : Byte) => BitVec.ofInt 16 ((p.toNat : Int) + 2 + d.toInt)) pc op1) ∧
    (∀ b, ir = some b → (optable b).mode = .zpr → displayTarget defaultParams pc ir op1 op2 =
      map2X (fun (p : Word) (d : Byte) => BitVec.ofInt 16 ((p.toNat : Int) + 3 + d.toInt)) pc op2) ∧
    ((∀ b, ir = some b → (optable b).mode ≠ .rel ∧ (optable b).mode ≠ .zpr) →
      displayTarget defaultParams pc ir op1 op2 = none)

/-! ## END -/

/-- R186: END retires the span in progress with end LAST_TS + 1, if there is one, and sets DONE; everything else stays;
after END it is refused. -/
def Obligations.EndFlushesSpan : Prop :=
  ∀ s : State,
    (s.done = true → exec .endOfCapture s = .refused .afterEnd) ∧
    (s.done = false → s.seen = false → exec .endOfCapture s = .next { s with done := true }) ∧
    (∀ last, s.done = false → s.seen = true → s.lastTs = some last →
      ∃ u, exec (retiring s.toRegs) { s with endTs := last + 1 } = .next u ∧
        exec .endOfCapture s = .next { u with done := true } ∧ u.toRegs = { s.toRegs with pc := u.pc } ∧
        ∃ e, u.events = s.events ++ [.instr e] ∧ e.start = s.fetchTs ∧ e.stop = last + 1)

/-! ## The whole machine -/

/-- R22, R111: PC changes only in the step that ends a span. -/
def Obligations.PcChangesOnlyAtSpanEnd : Prop :=
  ∀ s t : State, step s = .next t → t.pc ≠ s.pc → EndsSpan s

/-- R27 (with the equation of item b for every opcode but the call): every step keeps the invariants. -/
def Obligations.StepKeepsInvariants : Prop :=
  ∀ s t : State, Invariants defaultParams s.toRegs → step s = .next t → Invariants defaultParams t.toRegs

/-- R27, R187: the reset state meets the invariants, for every PC_RESET. -/
def Obligations.ResetMeetsInvariants : Prop :=
  ∀ p : WordX, Invariants defaultParams (State.resetWith p).toRegs ∧ RuleInvariants defaultParams (State.resetWith p).toRegs ∧
    EventsTile (State.resetWith p) ∧ EventsCount (State.resetWith p) ∧ PcHistory p (State.resetWith p)

/-- R27 as the rule writes it, with the equation NOPS + REM = LEN(IR) - 1 for every opcode. Expected to FAIL: from the call
fetched and then one write (NOPS = 0, REM = 2), R96 sets NOPS to 2 and REM to 1 (log 12). -/
def Obligations.StepKeepsRuleInvariantsLiterally : Prop :=
  ∀ s t : State, RuleInvariants defaultParams s.toRegs → step s = .next t → RuleInvariants defaultParams t.toRegs

/-- 40_classifier.md section 6 with R90, R110, R186: the machine, row by row, is the full step function of the spec with the
default tables, for every state. -/
def Obligations.StepIsFullStepFunction : Prop :=
  ∀ s : State, step s = genericStep defaultParams s

/-- R180, R187 item 6: a step only appends events, at most three: those emitted before are never changed. -/
def Obligations.EventsOnlyAppended : Prop :=
  ∀ s t : State, step s = .next t → ∃ es, t.events = s.events ++ es ∧ es.length ≤ 3

/-- R31, R180, R200: what was emitted is never read: from states that differ only in the events, the notifications and the
latched end, a step goes to states that differ only there, and emits the same events. -/
def Obligations.OutputsNeverRead : Prop :=
  ∀ (s t : State) (es : List Event) (ns : List Notice) (k : Nat), step s = .next t →
    ∃ t', step { s with events := es, notices := ns, endTs := k } = .next t' ∧ t'.toRegs = t.toRegs ∧
      t'.pending = t.pending ∧ ∃ new, t.events = s.events ++ new ∧ t'.events = es ++ new

/-- R187 item 3, R183 f: every step keeps the tiling of the time axis by the instruction events. -/
def Obligations.StepKeepsEventTiling : Prop :=
  ∀ s t : State, Invariants defaultParams s.toRegs → EventsTile s → step s = .next t → EventsTile t

/-- R187 items 1 and 2: every step keeps the counts of events. -/
def Obligations.StepKeepsEventCounts : Prop :=
  ∀ s t : State, EventsCount s → step s = .next t → EventsCount t

/-- R111, R187 item 5: every step keeps the link between the PC an event shows and the PC the retire before it wrote, which
for the first event is PC_RESET. -/
def Obligations.StepKeepsPcHistory : Prop :=
  ∀ (p : WordX) (s t : State), PcHistory p s → step s = .next t → PcHistory p t

/-- R200, R5: whether an emulator is attached changes no register and no event, for any tables. -/
def Obligations.EmulatorHasNoEffect : Prop :=
  ∀ (P : Params) (on : Bool) (s t : State), genericStep P s = .next t →
    ∃ t', genericStep { P with emuEnable := on } s = .next t' ∧ t'.toRegs = t.toRegs ∧ t'.events = t.events ∧
      t'.pending = t.pending
end

