-- ==== Sys2Proof/Laws/State.lean ====
section
/-! SUPPORT. One lemma per field per named update of the state, so that no proof unfolds a record update. -/

namespace Sys2Proof.Machine

open Sys2Proof

variable (P : Params) (s : State)

@[simp] theorem foldByte_toRegs (d : ByteX) : (foldByte d s).toRegs = { s.toRegs with nb0 := s.nb1, nb1 := s.nb2, nb2 := d } := rfl

@[simp] theorem foldByte_pending (d : ByteX) : (foldByte d s).pending = s.pending := rfl

@[simp] theorem foldByte_events (d : ByteX) : (foldByte d s).events = s.events := rfl

@[simp] theorem foldByte_notices (d : ByteX) : (foldByte d s).notices = s.notices := rfl

@[simp] theorem foldByte_endTs (d : ByteX) : (foldByte d s).endTs = s.endTs := rfl

@[simp] theorem emit_toRegs (e : Event) : (emit e s).toRegs = s.toRegs := rfl

@[simp] theorem emit_events (e : Event) : (emit e s).events = s.events ++ [e] := rfl

@[simp] theorem emit_pending (e : Event) : (emit e s).pending = s.pending := rfl

@[simp] theorem emit_notices (e : Event) : (emit e s).notices = s.notices := rfl

@[simp] theorem emit_endTs (e : Event) : (emit e s).endTs = s.endTs := rfl

@[simp] theorem notify_notices (n : Notice) : (notify P n s).notices = if P.emuEnable then s.notices ++ [n] else s.notices := by
  unfold notify; split <;> rfl

@[simp] theorem notify_toRegs (n : Notice) : (notify P n s).toRegs = s.toRegs := by
  unfold notify; split <;> rfl

@[simp] theorem notify_pending (n : Notice) : (notify P n s).pending = s.pending := by
  unfold notify; split <;> rfl

@[simp] theorem notify_events (n : Notice) : (notify P n s).events = s.events := by
  unfold notify; split <;> rfl

@[simp] theorem notify_endTs (n : Notice) : (notify P n s).endTs = s.endTs := by
  unfold notify; split <;> rfl

@[simp] theorem finishRetire_toRegs (k : Kind) (c : RunClass) (ir o1 o2 : ByteX) : (finishRetire P k c ir o1 o2 s).toRegs =
    { s.toRegs with pc := newPc P c ir o1 o2 s.toRegs } := by
  simp [finishRetire]

@[simp] theorem finishRetire_events (k : Kind) (c : RunClass) (ir o1 o2 : ByteX) : (finishRetire P k c ir o1 o2 s).events =
    s.events ++ [.instr (instrEvent P k ir o1 o2 s)] := by
  simp [finishRetire]

@[simp] theorem finishRetire_notices (k : Kind) (c : RunClass) (ir o1 o2 : ByteX) : (finishRetire P k c ir o1 o2 s).notices =
    if P.emuEnable then s.notices ++ [noticeOf P k c ir o1 o2 s.toRegs] else s.notices := by
  simp [finishRetire]

@[simp] theorem finishRetire_pending (k : Kind) (c : RunClass) (ir o1 o2 : ByteX) : (finishRetire P k c ir o1 o2 s).pending = s.pending := by
  simp [finishRetire]

@[simp] theorem finishRetire_endTs (k : Kind) (c : RunClass) (ir o1 o2 : ByteX) : (finishRetire P k c ir o1 o2 s).endTs = s.endTs := by
  simp [finishRetire]

@[simp] theorem emitSample_toRegs (d : ByteX) (ts : Nat) : (emitSample P d ts s).toRegs = s.toRegs := rfl

@[simp] theorem emitSample_events (d : ByteX) (ts : Nat) : (emitSample P d ts s).events =
    s.events ++ [.data ts (ts + 1) d (hex2 P d), .phaseEv ts (ts + 1) s.phase (phaseName s.phase)] := by
  simp [emitSample]

@[simp] theorem emitSample_pending (d : ByteX) (ts : Nat) : (emitSample P d ts s).pending = s.pending := rfl

@[simp] theorem emitSample_notices (d : ByteX) (ts : Nat) : (emitSample P d ts s).notices = s.notices := rfl

@[simp] theorem emitSample_endTs (d : ByteX) (ts : Nat) : (emitSample P d ts s).endTs = s.endTs := rfl

@[simp] theorem loadFetch_toRegs (d : ByteX) (ts : Nat) : (loadFetch P d ts s).toRegs =
    { s.toRegs with ir := d, rem := lenX P d - 1, wcnt := 0, phase := .fetch, op1 := none, op2 := none, nops := 0,
                    fetchTs := ts, ncyc := 1, seen := true, lastTs := some ts } := rfl

@[simp] theorem loadFetch_events (d : ByteX) (ts : Nat) : (loadFetch P d ts s).events =
    s.events ++ [.data ts (ts + 1) d (hex2 P d), .phaseEv ts (ts + 1) .fetch (phaseName .fetch)] := by
  simp [loadFetch]

@[simp] theorem loadFetch_pending (d : ByteX) (ts : Nat) : (loadFetch P d ts s).pending = s.pending := rfl

@[simp] theorem loadFetch_notices (d : ByteX) (ts : Nat) : (loadFetch P d ts s).notices = s.notices := rfl

@[simp] theorem loadFetch_endTs (d : ByteX) (ts : Nat) : (loadFetch P d ts s).endTs = s.endTs := rfl

@[simp] theorem countSample_toRegs (p : Phase) (d : ByteX) (ts : Nat) : (countSample P p d ts s).toRegs =
    { s.toRegs with phase := p, ncyc := s.ncyc + 1, lastTs := some ts } := rfl

@[simp] theorem countSample_events (p : Phase) (d : ByteX) (ts : Nat) : (countSample P p d ts s).events =
    s.events ++ [.data ts (ts + 1) d (hex2 P d), .phaseEv ts (ts + 1) p (phaseName p)] := by
  simp [countSample]

@[simp] theorem countSample_pending (p : Phase) (d : ByteX) (ts : Nat) : (countSample P p d ts s).pending = s.pending := rfl

@[simp] theorem countSample_notices (p : Phase) (d : ByteX) (ts : Nat) : (countSample P p d ts s).notices = s.notices := rfl

@[simp] theorem countSample_endTs (p : Phase) (d : ByteX) (ts : Nat) : (countSample P p d ts s).endTs = s.endTs := rfl

@[simp] theorem writeSample_toRegs (d : ByteX) (ts : Nat) : (writeSample P d ts s).toRegs =
    { s.toRegs with wcnt := s.wcnt + 1, phase := .memoryWrite, ncyc := s.ncyc + 1, lastTs := some ts } := rfl

@[simp] theorem writeSample_events (d : ByteX) (ts : Nat) : (writeSample P d ts s).events =
    s.events ++ [.data ts (ts + 1) d (hex2 P d), .phaseEv ts (ts + 1) .memoryWrite (phaseName .memoryWrite)] := by
  simp [writeSample]

@[simp] theorem writeSample_pending (d : ByteX) (ts : Nat) : (writeSample P d ts s).pending = s.pending := rfl

@[simp] theorem writeSample_notices (d : ByteX) (ts : Nat) : (writeSample P d ts s).notices = s.notices := rfl

@[simp] theorem writeSample_endTs (d : ByteX) (ts : Nat) : (writeSample P d ts s).endTs = s.endTs := rfl

@[simp] theorem readOperand1_toRegs (d : ByteX) (ts : Nat) : (readOperand1 P d ts s).toRegs =
    { s.toRegs with op1 := d, nops := 1, rem := s.rem - 1, phase := .operand1, ncyc := s.ncyc + 1, lastTs := some ts } := rfl

@[simp] theorem readOperand1_events (d : ByteX) (ts : Nat) : (readOperand1 P d ts s).events =
    s.events ++ [.data ts (ts + 1) d (hex2 P d), .phaseEv ts (ts + 1) .operand1 (phaseName .operand1)] := by
  simp [readOperand1]

@[simp] theorem readOperand1_pending (d : ByteX) (ts : Nat) : (readOperand1 P d ts s).pending = s.pending := rfl

@[simp] theorem readOperand1_notices (d : ByteX) (ts : Nat) : (readOperand1 P d ts s).notices = s.notices := rfl

@[simp] theorem readOperand1_endTs (d : ByteX) (ts : Nat) : (readOperand1 P d ts s).endTs = s.endTs := rfl

@[simp] theorem readOperand2_toRegs (d : ByteX) (ts : Nat) : (readOperand2 P d ts s).toRegs =
    { s.toRegs with op2 := d, nops := 2, rem := s.rem - 1, phase := .operand2, ncyc := s.ncyc + 1, lastTs := some ts } := rfl

@[simp] theorem readOperand2_events (d : ByteX) (ts : Nat) : (readOperand2 P d ts s).events =
    s.events ++ [.data ts (ts + 1) d (hex2 P d), .phaseEv ts (ts + 1) .operand2 (phaseName .operand2)] := by
  simp [readOperand2]

@[simp] theorem readOperand2_pending (d : ByteX) (ts : Nat) : (readOperand2 P d ts s).pending = s.pending := rfl

@[simp] theorem readOperand2_notices (d : ByteX) (ts : Nat) : (readOperand2 P d ts s).notices = s.notices := rfl

@[simp] theorem readOperand2_endTs (d : ByteX) (ts : Nat) : (readOperand2 P d ts s).endTs = s.endTs := rfl

@[simp] theorem readMemory_toRegs (d : ByteX) (ts : Nat) : (readMemory P d ts s).toRegs =
    { s.toRegs with nb0 := s.nb1, nb1 := s.nb2, nb2 := d, phase := .memoryRead, ncyc := s.ncyc + 1, lastTs := some ts } := rfl

@[simp] theorem readMemory_events (d : ByteX) (ts : Nat) : (readMemory P d ts s).events =
    s.events ++ [.data ts (ts + 1) d (hex2 P d), .phaseEv ts (ts + 1) .memoryRead (phaseName .memoryRead)] := by
  simp [readMemory]

@[simp] theorem readMemory_pending (d : ByteX) (ts : Nat) : (readMemory P d ts s).pending = s.pending := rfl

@[simp] theorem readMemory_notices (d : ByteX) (ts : Nat) : (readMemory P d ts s).notices = s.notices := rfl

@[simp] theorem readMemory_endTs (d : ByteX) (ts : Nat) : (readMemory P d ts s).endTs = s.endTs := rfl

/-! ## Admission -/

/-- An admitted sample goes on with its meaning. -/
theorem guardSample_admitted {ts : Nat} {s : State} (k : Result) (hd : s.done = false)
    (ho : ∀ t, s.lastTs = some t → t < ts) : guardSample ts s k = k := by
  unfold guardSample inOrder
  cases h : s.lastTs with
  | none => simp [hd]
  | some t => simp [hd, ho t h]

/-- All that a guarded sample can answer: its meaning when it is admitted, else the refusal of R90. -/
theorem guardSample_cases (ts : Nat) (s : State) (k : Result) :
    (s.done = true ∧ guardSample ts s k = .refused .afterEnd) ∨
    (s.done = false ∧ (∃ t, s.lastTs = some t ∧ ts ≤ t) ∧ guardSample ts s k = .refused .timestampOrder) ∨
    (s.done = false ∧ (∀ t, s.lastTs = some t → t < ts) ∧ guardSample ts s k = k) := by
  unfold guardSample inOrder
  cases hd : s.done
  · cases hl : s.lastTs with
    | none => simp
    | some t => by_cases h : t < ts <;> simp [h, Nat.not_lt.mp]
  · simp

end Sys2Proof.Machine
end

