-- ==== Sys2Proof/Laws/Retire.lean ====
section
/-! SUPPORT. One lemma for the retire of a span: a row's meaning is the rule of its table class (R113), so the grid of
meanings, `exec` on the decoded instruction, and the retire of the generic machine agree. -/

namespace Sys2Proof.Machine

open Sys2Proof

/-- A property of every byte, from its 256 numerals. -/
theorem forall_byte {p : Byte → Prop} (h : ∀ n < 256, p (BitVec.ofNat 8 n)) (b : Byte) : p b := by
  have := h b.toNat b.isLt
  simpa using this

/-- The first operand a row uses: the one it carries, or the register (R110). -/
def rowOp1 (b : Byte) (o1 : ByteX) (s : State) : ByteX := if 2 ≤ lenOf defaultParams b then o1 else s.op1

/-- The second operand a row uses. -/
def rowOp2 (b : Byte) (o2 : ByteX) (s : State) : ByteX := if 3 ≤ lenOf defaultParams b then o2 else s.op2

/-- A row's meaning is the retire by the class its table cell names (R7, R71, R113). -/
theorem rowMeaning_eq (b : Byte) (o1 o2 : ByteX) (s : State) :
    rowMeaning b o1 o2 s = .next (retireRow defaultParams b (rowOp1 b o1 s) (rowOp2 b o2 s) s) := by
  revert b
  apply forall_byte
  intro n hn
  interval_cases n <;> rfl

/-- `exec` on the row of an opcode byte is that byte's meaning in the grid. -/
theorem exec_rowInstr (b : Byte) (o1 o2 : ByteX) (s : State) : exec (rowInstr b o1 o2) s = rowMeaning b o1 o2 s := by
  revert b
  apply forall_byte
  intro n hn
  interval_cases n <;> rfl

/-- With the operands in their registers, the row's meaning takes them from there. -/
theorem rowMeaning_regs (b : Byte) (s : State) :
    rowMeaning b s.op1 s.op2 s = .next (retireRow defaultParams b s.op1 s.op2 s) := by
  rw [rowMeaning_eq]
  simp [rowOp1, rowOp2]

/-- All a retire can answer: a next state, the one of the generic retire (R110). -/
theorem retireSpan_eq (endTs : Nat) (s : State) :
    retireSpan endTs s = .next (genericRetire defaultParams endTs s) := by
  unfold retireSpan genericRetire
  cases h : s.ir with
  | none => simp [isInterrupt, execRetireUnknown, retireAsUnknown, classX, h]
  | some b =>
    by_cases hi : isInterrupt s.wcnt (some b) = true
    · simp [hi, execRetireInt, retireAsInterrupt, h]
    · have hr := rowMeaning_regs b { s with endTs := endTs }
      simp only [Bool.not_eq_true] at hi
      simp [hi, h, classX, hr, retireRow, defaultParams]

/-- What the retire runs, as an instruction: `exec` of the span's row (R113). -/
theorem retireSpan_exec (endTs : Nat) (s : State) :
    retireSpan endTs s = exec (retiring s.toRegs) { s with endTs := endTs } := by
  unfold retireSpan retiring
  cases h : s.ir with
  | none => simp [exec, h]
  | some b =>
    by_cases hi : isInterrupt s.wcnt (some b) = true
    · simp [hi, exec, h]
    · simp only [Bool.not_eq_true] at hi
      simp [hi, exec_rowInstr, h]

/-- The retire writes PC and no other register (R110). -/
theorem genericRetire_toRegs (P : Params) (endTs : Nat) (s : State) :
    (genericRetire P endTs s).toRegs = { s.toRegs with pc := (genericRetire P endTs s).pc } := by
  simp [genericRetire]

@[simp] theorem genericRetire_phase (P : Params) (endTs : Nat) (s : State) :
    (genericRetire P endTs s).phase = s.phase := by
  simp [genericRetire]

@[simp] theorem genericRetire_seen (P : Params) (endTs : Nat) (s : State) :
    (genericRetire P endTs s).seen = s.seen := by
  simp [genericRetire]

@[simp] theorem genericRetire_ir (P : Params) (endTs : Nat) (s : State) :
    (genericRetire P endTs s).ir = s.ir := by
  simp [genericRetire]

@[simp] theorem genericRetire_op1 (P : Params) (endTs : Nat) (s : State) :
    (genericRetire P endTs s).op1 = s.op1 := by
  simp [genericRetire]

@[simp] theorem genericRetire_op2 (P : Params) (endTs : Nat) (s : State) :
    (genericRetire P endTs s).op2 = s.op2 := by
  simp [genericRetire]

@[simp] theorem genericRetire_nops (P : Params) (endTs : Nat) (s : State) :
    (genericRetire P endTs s).nops = s.nops := by
  simp [genericRetire]

@[simp] theorem genericRetire_rem (P : Params) (endTs : Nat) (s : State) :
    (genericRetire P endTs s).rem = s.rem := by
  simp [genericRetire]

@[simp] theorem genericRetire_wcnt (P : Params) (endTs : Nat) (s : State) :
    (genericRetire P endTs s).wcnt = s.wcnt := by
  simp [genericRetire]

@[simp] theorem genericRetire_ncyc (P : Params) (endTs : Nat) (s : State) :
    (genericRetire P endTs s).ncyc = s.ncyc := by
  simp [genericRetire]

@[simp] theorem genericRetire_fetchTs (P : Params) (endTs : Nat) (s : State) :
    (genericRetire P endTs s).fetchTs = s.fetchTs := by
  simp [genericRetire]

@[simp] theorem genericRetire_lastTs (P : Params) (endTs : Nat) (s : State) :
    (genericRetire P endTs s).lastTs = s.lastTs := by
  simp [genericRetire]

@[simp] theorem genericRetire_nb0 (P : Params) (endTs : Nat) (s : State) :
    (genericRetire P endTs s).nb0 = s.nb0 := by
  simp [genericRetire]

@[simp] theorem genericRetire_nb1 (P : Params) (endTs : Nat) (s : State) :
    (genericRetire P endTs s).nb1 = s.nb1 := by
  simp [genericRetire]

@[simp] theorem genericRetire_nb2 (P : Params) (endTs : Nat) (s : State) :
    (genericRetire P endTs s).nb2 = s.nb2 := by
  simp [genericRetire]

@[simp] theorem genericRetire_done (P : Params) (endTs : Nat) (s : State) :
    (genericRetire P endTs s).done = s.done := by
  simp [genericRetire]

/-- The retire emits one instruction event, with the old PC (R111, R183). -/
theorem genericRetire_events (P : Params) (endTs : Nat) (s : State) :
    ∃ e, (genericRetire P endTs s).events = s.events ++ [.instr e] ∧ e.start = s.fetchTs ∧ e.stop = endTs ∧ e.pc = s.pc := by
  refine ⟨_, finishRetire_events .., ?_⟩
  simp [instrEvent]

@[simp] theorem genericRetire_pending (P : Params) (endTs : Nat) (s : State) :
    (genericRetire P endTs s).pending = s.pending := by
  simp [genericRetire]

@[simp] theorem genericRetire_endTs (P : Params) (endTs : Nat) (s : State) : (genericRetire P endTs s).endTs = endTs := by
  simp [genericRetire]

/-- The retire notifies the emulator once, when one is attached (R201). -/
theorem genericRetire_notices (P : Params) (endTs : Nat) (s : State) (h : P.emuEnable = true) :
    ∃ n, (genericRetire P endTs s).notices = s.notices ++ [n] ∧ n.oldPc = s.pc ∧ n.newPc = (genericRetire P endTs s).pc := by
  simp [genericRetire, noticeOf, h]

end Sys2Proof.Machine
end

