-- ==== Sys2Proof/Laws/Events.lean ====
section
/-! SUPPORT. One retire in the terms of the statements, and how the properties of the event sequence pass to a longer one. -/

namespace Sys2Proof.Safety

open Sys2Proof Sys2Proof.Machine

/-- The offer of a retire, as the operation makes it and as R201 lists it (R77 for X). -/
theorem noticeOf_eq_offeredNotice (k : Kind) (c : RunClass) (ir op1 op2 : ByteX) (s : State) :
    noticeOf defaultParams k c ir op1 op2 s.toRegs =
      offeredNotice s c (newPc defaultParams c ir op1 op2 s.toRegs) (instrEvent defaultParams k ir op1 op2 s) := by
  cases ir <;> rfl

/-- Everything a retire does, once its kind and class are chosen (R110, R111, R201). -/
theorem finishRetire_retiresTo (k : Kind) (c : RunClass) (ir op1 op2 : ByteX) (s : State) :
    RetiresTo s (finishRetire defaultParams k c ir op1 op2 s) c (newPc defaultParams c ir op1 op2 s.toRegs)
      (instrEvent defaultParams k ir op1 op2 s) :=
  ⟨by simp, by simp, by rw [← noticeOf_eq_offeredNotice]; exact finishRetire_notices .., by simp, by simp⟩

/-- Everything the retire of an opcode row does when the span is no interrupt (R112, R113): its class is the table's (R7). -/
theorem retireRow_retiresTo (b : Byte) (op1 op2 : ByteX) (s : State) (h : isInterrupt s.wcnt (some b) = false) :
    RetiresTo s (retireRow defaultParams b op1 op2 s) (.table (optable b).cls)
      (newPc defaultParams (.table (optable b).cls) (some b) op1 op2 s.toRegs)
      (instrEvent defaultParams .insn (some b) op1 op2 s) := by
  unfold retireRow
  rw [if_neg (by simp [h])]
  exact finishRetire_retiresTo ..

/-- No interrupt without exactly three writes, and none for the software break (R112). -/
theorem isInterrupt_eq_false {wcnt : Nat} {b : Byte} (h : wcnt ≠ 3 ∨ b = 0x00) : isInterrupt wcnt (some b) = false := by
  rcases h with h | rfl <;> simp [isInterrupt, *]

@[simp] theorem instrEvents_append (es fs : List Event) : instrEvents (es ++ fs) = instrEvents es ++ instrEvents fs :=
  List.filterMap_append

@[simp] theorem instrEvents_instr (e : InstrEvent) (es : List Event) : instrEvents (.instr e :: es) = e :: instrEvents es := rfl

@[simp] theorem instrEvents_data (a b : Nat) (d : ByteX) (t : Text) (es : List Event) :
    instrEvents (.data a b d t :: es) = instrEvents es := rfl

@[simp] theorem instrEvents_phaseEv (a b : Nat) (p : Phase) (t : Text) (es : List Event) :
    instrEvents (.phaseEv a b p t :: es) = instrEvents es := rfl

@[simp] theorem instrEvents_nil : instrEvents [] = [] := rfl

/-- A chain of spans grows by a span that starts where it ended. -/
theorem chained_append_one {es : List InstrEvent} {e : InstrEvent} (h : Chained es) (he : e.start < e.stop)
    (hn : ∀ l, es.getLast? = some l → l.stop = e.start) : Chained (es ++ [e]) := by
  induction es with
  | nil => exact he
  | cons a as ih =>
    cases as with
    | nil => exact ⟨h, hn a rfl, he⟩
    | cons b bs => exact ⟨h.1, h.2.1, ih h.2.2 fun l hl => hn l (by simpa using hl)⟩

/-- The link between notifications grows by one that starts from the last PC. -/
theorem pcLinked_append_one {ns : List Notice} {n : Notice} (h : PcLinked ns)
    (hn : ∀ l, ns.getLast? = some l → l.newPc = n.oldPc) : PcLinked (ns ++ [n]) := by
  induction ns with
  | nil => trivial
  | cons a as ih =>
    cases as with
    | nil => exact ⟨hn a rfl, trivial⟩
    | cons b bs => exact ⟨h.1, ih h.2 fun l hl => hn l (by simpa using hl)⟩

end Sys2Proof.Safety
end

