-- ==== Sys2Proof/Laws/Operands.lean ====
section
/-! SUPPORT. The operand and address functions in exact arithmetic, narrowed once: what each computes, and when it is X. -/

namespace Sys2Proof.Machine

open Sys2Proof

/-- `(high << 8) | low` as a number (R25, R64). -/
theorem joinBytes_eq (high low : Byte) : joinBytes high low = BitVec.ofNat 16 (high.toNat * 256 + low.toNat) := by
  unfold joinBytes
  apply BitVec.eq_of_toNat_eq
  rw [BitVec.toNat_append, Nat.shiftLeft_eq, Nat.mul_comm, ← Nat.two_pow_add_eq_or_of_lt (b := low.toNat) (i := 8) low.isLt,
    BitVec.toNat_ofNat]
  have := high.isLt
  have := low.isLt
  omega

/-- The operand pair as a number (R64). -/
theorem addr16_eq (op1 op2 : ByteX) :
    addr16 op1 op2 = map2X (fun high low : Byte => BitVec.ofNat 16 (high.toNat * 256 + low.toNat)) op2 op1 := by
  unfold addr16
  congr
  funext high low
  exact joinBytes_eq high low

/-- The sequential advance as a number, modulo 65536 (R118). -/
theorem advance_eq (pc : WordX) (len : Nat) : advance pc len = pc.map fun p => BitVec.ofNat 16 (p.toNat + len) := by
  cases pc with
  | none => rfl
  | some p => simp [advance, BitVec.ofNat_add]

/-- The displaced address as a number, modulo 65536 (R116, R121). -/
theorem displace_eq (pc : WordX) (base : Nat) (disp : ByteX) :
    displace pc base disp =
      map2X (fun (p : Word) (d : Byte) => BitVec.ofInt 16 ((p.toNat : Int) + base + d.toInt)) pc disp := by
  rcases pc with _ | p <;> rcases disp with _ | d <;> simp [displace, map2X, BitVec.ofInt_add, sext8, BitVec.signExtend]

/-- A function of two values is X exactly when one of them is (R120). -/
theorem map2X_eq_none {α β γ : Type} (f : α → β → γ) (a : Option α) (b : Option β) :
    map2X f a b = none ↔ a = none ∨ b = none := by
  cases a <;> cases b <;> simp [map2X]

end Sys2Proof.Machine
end

