-- ==== Sys2Proof/Laws/PerInstr.lean ====
section
/-! SUPPORT. The family EncodeLength, one lemma per constructor of `Instr`: the encoding has as many bytes as the tables give
its opcode byte (R63, R66, R77). A row without bytes (R78) has nothing to meet. -/

namespace Sys2Proof.Laws.EncodeLength

open Sys2Proof Sys2Proof.Machine

/-- If the instruction has bytes, they are as many as the length of its opcode byte (R63). -/
def Statement (i : Instr) : Prop :=
  ∀ (opcode : ByteX) (operands : List ByteX), encode i = some (opcode :: operands) →
    operands.length + 1 = lenX defaultParams opcode

theorem statement_of_bytes {i : Instr} {opcode : ByteX} {operands : List ByteX} (h : encode i = some (opcode :: operands))
    (hl : operands.length + 1 = lenX defaultParams opcode) : Statement i := by
  intro opcode' operands' h'
  rw [h] at h'
  cases h'
  exact hl

theorem statement_of_none {i : Instr} (h : encode i = none) : Statement i := by
  intro _ _ h'
  rw [h] at h'
  cases h'

theorem oraIzx (o1 : ByteX) : Statement (.oraIzx o1) := statement_of_bytes rfl rfl

theorem nopImm02 (o1 : ByteX) : Statement (.nopImm02 o1) := statement_of_bytes rfl rfl

theorem tsbZp (o1 : ByteX) : Statement (.tsbZp o1) := statement_of_bytes rfl rfl

theorem oraZp (o1 : ByteX) : Statement (.oraZp o1) := statement_of_bytes rfl rfl

theorem aslZp (o1 : ByteX) : Statement (.aslZp o1) := statement_of_bytes rfl rfl

theorem rmb0 (o1 : ByteX) : Statement (.rmb0 o1) := statement_of_bytes rfl rfl

theorem oraImm (o1 : ByteX) : Statement (.oraImm o1) := statement_of_bytes rfl rfl

theorem tsbAbs (o1 : ByteX) (o2 : ByteX) : Statement (.tsbAbs o1 o2) := statement_of_bytes rfl rfl

theorem oraAbs (o1 : ByteX) (o2 : ByteX) : Statement (.oraAbs o1 o2) := statement_of_bytes rfl rfl

theorem aslAbs (o1 : ByteX) (o2 : ByteX) : Statement (.aslAbs o1 o2) := statement_of_bytes rfl rfl

theorem bbr0 (o1 : ByteX) (o2 : ByteX) : Statement (.bbr0 o1 o2) := statement_of_bytes rfl rfl

theorem bpl (o1 : ByteX) : Statement (.bpl o1) := statement_of_bytes rfl rfl

theorem oraIzy (o1 : ByteX) : Statement (.oraIzy o1) := statement_of_bytes rfl rfl

theorem oraIzp (o1 : ByteX) : Statement (.oraIzp o1) := statement_of_bytes rfl rfl

theorem trbZp (o1 : ByteX) : Statement (.trbZp o1) := statement_of_bytes rfl rfl

theorem oraZpx (o1 : ByteX) : Statement (.oraZpx o1) := statement_of_bytes rfl rfl

theorem aslZpx (o1 : ByteX) : Statement (.aslZpx o1) := statement_of_bytes rfl rfl

theorem rmb1 (o1 : ByteX) : Statement (.rmb1 o1) := statement_of_bytes rfl rfl

theorem oraAby (o1 : ByteX) (o2 : ByteX) : Statement (.oraAby o1 o2) := statement_of_bytes rfl rfl

theorem trbAbs (o1 : ByteX) (o2 : ByteX) : Statement (.trbAbs o1 o2) := statement_of_bytes rfl rfl

theorem oraAbx (o1 : ByteX) (o2 : ByteX) : Statement (.oraAbx o1 o2) := statement_of_bytes rfl rfl

theorem aslAbx (o1 : ByteX) (o2 : ByteX) : Statement (.aslAbx o1 o2) := statement_of_bytes rfl rfl

theorem bbr1 (o1 : ByteX) (o2 : ByteX) : Statement (.bbr1 o1 o2) := statement_of_bytes rfl rfl

theorem jsr (o1 : ByteX) (o2 : ByteX) : Statement (.jsr o1 o2) := statement_of_bytes rfl rfl

theorem andIzx (o1 : ByteX) : Statement (.andIzx o1) := statement_of_bytes rfl rfl

theorem nopImm22 (o1 : ByteX) : Statement (.nopImm22 o1) := statement_of_bytes rfl rfl

theorem bitZp (o1 : ByteX) : Statement (.bitZp o1) := statement_of_bytes rfl rfl

theorem andZp (o1 : ByteX) : Statement (.andZp o1) := statement_of_bytes rfl rfl

theorem rolZp (o1 : ByteX) : Statement (.rolZp o1) := statement_of_bytes rfl rfl

theorem rmb2 (o1 : ByteX) : Statement (.rmb2 o1) := statement_of_bytes rfl rfl

theorem andImm (o1 : ByteX) : Statement (.andImm o1) := statement_of_bytes rfl rfl

theorem bitAbs (o1 : ByteX) (o2 : ByteX) : Statement (.bitAbs o1 o2) := statement_of_bytes rfl rfl

theorem andAbs (o1 : ByteX) (o2 : ByteX) : Statement (.andAbs o1 o2) := statement_of_bytes rfl rfl

theorem rolAbs (o1 : ByteX) (o2 : ByteX) : Statement (.rolAbs o1 o2) := statement_of_bytes rfl rfl

theorem bbr2 (o1 : ByteX) (o2 : ByteX) : Statement (.bbr2 o1 o2) := statement_of_bytes rfl rfl

theorem bmi (o1 : ByteX) : Statement (.bmi o1) := statement_of_bytes rfl rfl

theorem andIzy (o1 : ByteX) : Statement (.andIzy o1) := statement_of_bytes rfl rfl

theorem andIzp (o1 : ByteX) : Statement (.andIzp o1) := statement_of_bytes rfl rfl

theorem bitZpx (o1 : ByteX) : Statement (.bitZpx o1) := statement_of_bytes rfl rfl

theorem andZpx (o1 : ByteX) : Statement (.andZpx o1) := statement_of_bytes rfl rfl

theorem rolZpx (o1 : ByteX) : Statement (.rolZpx o1) := statement_of_bytes rfl rfl

theorem rmb3 (o1 : ByteX) : Statement (.rmb3 o1) := statement_of_bytes rfl rfl

theorem andAby (o1 : ByteX) (o2 : ByteX) : Statement (.andAby o1 o2) := statement_of_bytes rfl rfl

theorem bitAbx (o1 : ByteX) (o2 : ByteX) : Statement (.bitAbx o1 o2) := statement_of_bytes rfl rfl

theorem andAbx (o1 : ByteX) (o2 : ByteX) : Statement (.andAbx o1 o2) := statement_of_bytes rfl rfl

theorem rolAbx (o1 : ByteX) (o2 : ByteX) : Statement (.rolAbx o1 o2) := statement_of_bytes rfl rfl

theorem bbr3 (o1 : ByteX) (o2 : ByteX) : Statement (.bbr3 o1 o2) := statement_of_bytes rfl rfl

theorem eorIzx (o1 : ByteX) : Statement (.eorIzx o1) := statement_of_bytes rfl rfl

theorem nopImm42 (o1 : ByteX) : Statement (.nopImm42 o1) := statement_of_bytes rfl rfl

theorem nopZp44 (o1 : ByteX) : Statement (.nopZp44 o1) := statement_of_bytes rfl rfl

theorem eorZp (o1 : ByteX) : Statement (.eorZp o1) := statement_of_bytes rfl rfl

theorem lsrZp (o1 : ByteX) : Statement (.lsrZp o1) := statement_of_bytes rfl rfl

theorem rmb4 (o1 : ByteX) : Statement (.rmb4 o1) := statement_of_bytes rfl rfl

theorem eorImm (o1 : ByteX) : Statement (.eorImm o1) := statement_of_bytes rfl rfl

theorem jmpAbs (o1 : ByteX) (o2 : ByteX) : Statement (.jmpAbs o1 o2) := statement_of_bytes rfl rfl

theorem eorAbs (o1 : ByteX) (o2 : ByteX) : Statement (.eorAbs o1 o2) := statement_of_bytes rfl rfl

theorem lsrAbs (o1 : ByteX) (o2 : ByteX) : Statement (.lsrAbs o1 o2) := statement_of_bytes rfl rfl

theorem bbr4 (o1 : ByteX) (o2 : ByteX) : Statement (.bbr4 o1 o2) := statement_of_bytes rfl rfl

theorem bvc (o1 : ByteX) : Statement (.bvc o1) := statement_of_bytes rfl rfl

theorem eorIzy (o1 : ByteX) : Statement (.eorIzy o1) := statement_of_bytes rfl rfl

theorem eorIzp (o1 : ByteX) : Statement (.eorIzp o1) := statement_of_bytes rfl rfl

theorem nopZpx54 (o1 : ByteX) : Statement (.nopZpx54 o1) := statement_of_bytes rfl rfl

theorem eorZpx (o1 : ByteX) : Statement (.eorZpx o1) := statement_of_bytes rfl rfl

theorem lsrZpx (o1 : ByteX) : Statement (.lsrZpx o1) := statement_of_bytes rfl rfl

theorem rmb5 (o1 : ByteX) : Statement (.rmb5 o1) := statement_of_bytes rfl rfl

theorem eorAby (o1 : ByteX) (o2 : ByteX) : Statement (.eorAby o1 o2) := statement_of_bytes rfl rfl

theorem nopAbs5C (o1 : ByteX) (o2 : ByteX) : Statement (.nopAbs5C o1 o2) := statement_of_bytes rfl rfl

theorem eorAbx (o1 : ByteX) (o2 : ByteX) : Statement (.eorAbx o1 o2) := statement_of_bytes rfl rfl

theorem lsrAbx (o1 : ByteX) (o2 : ByteX) : Statement (.lsrAbx o1 o2) := statement_of_bytes rfl rfl

theorem bbr5 (o1 : ByteX) (o2 : ByteX) : Statement (.bbr5 o1 o2) := statement_of_bytes rfl rfl

theorem adcIzx (o1 : ByteX) : Statement (.adcIzx o1) := statement_of_bytes rfl rfl

theorem nopImm62 (o1 : ByteX) : Statement (.nopImm62 o1) := statement_of_bytes rfl rfl

theorem stzZp (o1 : ByteX) : Statement (.stzZp o1) := statement_of_bytes rfl rfl

theorem adcZp (o1 : ByteX) : Statement (.adcZp o1) := statement_of_bytes rfl rfl

theorem rorZp (o1 : ByteX) : Statement (.rorZp o1) := statement_of_bytes rfl rfl

theorem rmb6 (o1 : ByteX) : Statement (.rmb6 o1) := statement_of_bytes rfl rfl

theorem adcImm (o1 : ByteX) : Statement (.adcImm o1) := statement_of_bytes rfl rfl

theorem jmpInd (o1 : ByteX) (o2 : ByteX) : Statement (.jmpInd o1 o2) := statement_of_bytes rfl rfl

theorem adcAbs (o1 : ByteX) (o2 : ByteX) : Statement (.adcAbs o1 o2) := statement_of_bytes rfl rfl

theorem rorAbs (o1 : ByteX) (o2 : ByteX) : Statement (.rorAbs o1 o2) := statement_of_bytes rfl rfl

theorem bbr6 (o1 : ByteX) (o2 : ByteX) : Statement (.bbr6 o1 o2) := statement_of_bytes rfl rfl

theorem bvs (o1 : ByteX) : Statement (.bvs o1) := statement_of_bytes rfl rfl

theorem adcIzy (o1 : ByteX) : Statement (.adcIzy o1) := statement_of_bytes rfl rfl

theorem adcIzp (o1 : ByteX) : Statement (.adcIzp o1) := statement_of_bytes rfl rfl

theorem stzZpx (o1 : ByteX) : Statement (.stzZpx o1) := statement_of_bytes rfl rfl

theorem adcZpx (o1 : ByteX) : Statement (.adcZpx o1) := statement_of_bytes rfl rfl

theorem rorZpx (o1 : ByteX) : Statement (.rorZpx o1) := statement_of_bytes rfl rfl

theorem rmb7 (o1 : ByteX) : Statement (.rmb7 o1) := statement_of_bytes rfl rfl

theorem adcAby (o1 : ByteX) (o2 : ByteX) : Statement (.adcAby o1 o2) := statement_of_bytes rfl rfl

theorem jmpIax (o1 : ByteX) (o2 : ByteX) : Statement (.jmpIax o1 o2) := statement_of_bytes rfl rfl

theorem adcAbx (o1 : ByteX) (o2 : ByteX) : Statement (.adcAbx o1 o2) := statement_of_bytes rfl rfl

theorem rorAbx (o1 : ByteX) (o2 : ByteX) : Statement (.rorAbx o1 o2) := statement_of_bytes rfl rfl

theorem bbr7 (o1 : ByteX) (o2 : ByteX) : Statement (.bbr7 o1 o2) := statement_of_bytes rfl rfl

theorem bra (o1 : ByteX) : Statement (.bra o1) := statement_of_bytes rfl rfl

theorem staIzx (o1 : ByteX) : Statement (.staIzx o1) := statement_of_bytes rfl rfl

theorem nopImm82 (o1 : ByteX) : Statement (.nopImm82 o1) := statement_of_bytes rfl rfl

theorem styZp (o1 : ByteX) : Statement (.styZp o1) := statement_of_bytes rfl rfl

theorem staZp (o1 : ByteX) : Statement (.staZp o1) := statement_of_bytes rfl rfl

theorem stxZp (o1 : ByteX) : Statement (.stxZp o1) := statement_of_bytes rfl rfl

theorem smb0 (o1 : ByteX) : Statement (.smb0 o1) := statement_of_bytes rfl rfl

theorem bitImm (o1 : ByteX) : Statement (.bitImm o1) := statement_of_bytes rfl rfl

theorem styAbs (o1 : ByteX) (o2 : ByteX) : Statement (.styAbs o1 o2) := statement_of_bytes rfl rfl

theorem staAbs (o1 : ByteX) (o2 : ByteX) : Statement (.staAbs o1 o2) := statement_of_bytes rfl rfl

theorem stxAbs (o1 : ByteX) (o2 : ByteX) : Statement (.stxAbs o1 o2) := statement_of_bytes rfl rfl

theorem bbs0 (o1 : ByteX) (o2 : ByteX) : Statement (.bbs0 o1 o2) := statement_of_bytes rfl rfl

theorem bcc (o1 : ByteX) : Statement (.bcc o1) := statement_of_bytes rfl rfl

theorem staIzy (o1 : ByteX) : Statement (.staIzy o1) := statement_of_bytes rfl rfl

theorem staIzp (o1 : ByteX) : Statement (.staIzp o1) := statement_of_bytes rfl rfl

theorem styZpx (o1 : ByteX) : Statement (.styZpx o1) := statement_of_bytes rfl rfl

theorem staZpx (o1 : ByteX) : Statement (.staZpx o1) := statement_of_bytes rfl rfl

theorem stxZpy (o1 : ByteX) : Statement (.stxZpy o1) := statement_of_bytes rfl rfl

theorem smb1 (o1 : ByteX) : Statement (.smb1 o1) := statement_of_bytes rfl rfl

theorem staAby (o1 : ByteX) (o2 : ByteX) : Statement (.staAby o1 o2) := statement_of_bytes rfl rfl

theorem stzAbs (o1 : ByteX) (o2 : ByteX) : Statement (.stzAbs o1 o2) := statement_of_bytes rfl rfl

theorem staAbx (o1 : ByteX) (o2 : ByteX) : Statement (.staAbx o1 o2) := statement_of_bytes rfl rfl

theorem stzAbx (o1 : ByteX) (o2 : ByteX) : Statement (.stzAbx o1 o2) := statement_of_bytes rfl rfl

theorem bbs1 (o1 : ByteX) (o2 : ByteX) : Statement (.bbs1 o1 o2) := statement_of_bytes rfl rfl

theorem ldyImm (o1 : ByteX) : Statement (.ldyImm o1) := statement_of_bytes rfl rfl

theorem ldaIzx (o1 : ByteX) : Statement (.ldaIzx o1) := statement_of_bytes rfl rfl

theorem ldxImm (o1 : ByteX) : Statement (.ldxImm o1) := statement_of_bytes rfl rfl

theorem ldyZp (o1 : ByteX) : Statement (.ldyZp o1) := statement_of_bytes rfl rfl

theorem ldaZp (o1 : ByteX) : Statement (.ldaZp o1) := statement_of_bytes rfl rfl

theorem ldxZp (o1 : ByteX) : Statement (.ldxZp o1) := statement_of_bytes rfl rfl

theorem smb2 (o1 : ByteX) : Statement (.smb2 o1) := statement_of_bytes rfl rfl

theorem ldaImm (o1 : ByteX) : Statement (.ldaImm o1) := statement_of_bytes rfl rfl

theorem ldyAbs (o1 : ByteX) (o2 : ByteX) : Statement (.ldyAbs o1 o2) := statement_of_bytes rfl rfl

theorem ldaAbs (o1 : ByteX) (o2 : ByteX) : Statement (.ldaAbs o1 o2) := statement_of_bytes rfl rfl

theorem ldxAbs (o1 : ByteX) (o2 : ByteX) : Statement (.ldxAbs o1 o2) := statement_of_bytes rfl rfl

theorem bbs2 (o1 : ByteX) (o2 : ByteX) : Statement (.bbs2 o1 o2) := statement_of_bytes rfl rfl

theorem bcs (o1 : ByteX) : Statement (.bcs o1) := statement_of_bytes rfl rfl

theorem ldaIzy (o1 : ByteX) : Statement (.ldaIzy o1) := statement_of_bytes rfl rfl

theorem ldaIzp (o1 : ByteX) : Statement (.ldaIzp o1) := statement_of_bytes rfl rfl

theorem ldyZpx (o1 : ByteX) : Statement (.ldyZpx o1) := statement_of_bytes rfl rfl

theorem ldaZpx (o1 : ByteX) : Statement (.ldaZpx o1) := statement_of_bytes rfl rfl

theorem ldxZpy (o1 : ByteX) : Statement (.ldxZpy o1) := statement_of_bytes rfl rfl

theorem smb3 (o1 : ByteX) : Statement (.smb3 o1) := statement_of_bytes rfl rfl

theorem ldaAby (o1 : ByteX) (o2 : ByteX) : Statement (.ldaAby o1 o2) := statement_of_bytes rfl rfl

theorem ldyAbx (o1 : ByteX) (o2 : ByteX) : Statement (.ldyAbx o1 o2) := statement_of_bytes rfl rfl

theorem ldaAbx (o1 : ByteX) (o2 : ByteX) : Statement (.ldaAbx o1 o2) := statement_of_bytes rfl rfl

theorem ldxAby (o1 : ByteX) (o2 : ByteX) : Statement (.ldxAby o1 o2) := statement_of_bytes rfl rfl

theorem bbs3 (o1 : ByteX) (o2 : ByteX) : Statement (.bbs3 o1 o2) := statement_of_bytes rfl rfl

theorem cpyImm (o1 : ByteX) : Statement (.cpyImm o1) := statement_of_bytes rfl rfl

theorem cmpIzx (o1 : ByteX) : Statement (.cmpIzx o1) := statement_of_bytes rfl rfl

theorem nopImmC2 (o1 : ByteX) : Statement (.nopImmC2 o1) := statement_of_bytes rfl rfl

theorem cpyZp (o1 : ByteX) : Statement (.cpyZp o1) := statement_of_bytes rfl rfl

theorem cmpZp (o1 : ByteX) : Statement (.cmpZp o1) := statement_of_bytes rfl rfl

theorem decZp (o1 : ByteX) : Statement (.decZp o1) := statement_of_bytes rfl rfl

theorem smb4 (o1 : ByteX) : Statement (.smb4 o1) := statement_of_bytes rfl rfl

theorem cmpImm (o1 : ByteX) : Statement (.cmpImm o1) := statement_of_bytes rfl rfl

theorem cpyAbs (o1 : ByteX) (o2 : ByteX) : Statement (.cpyAbs o1 o2) := statement_of_bytes rfl rfl

theorem cmpAbs (o1 : ByteX) (o2 : ByteX) : Statement (.cmpAbs o1 o2) := statement_of_bytes rfl rfl

theorem decAbs (o1 : ByteX) (o2 : ByteX) : Statement (.decAbs o1 o2) := statement_of_bytes rfl rfl

theorem bbs4 (o1 : ByteX) (o2 : ByteX) : Statement (.bbs4 o1 o2) := statement_of_bytes rfl rfl

theorem bne (o1 : ByteX) : Statement (.bne o1) := statement_of_bytes rfl rfl

theorem cmpIzy (o1 : ByteX) : Statement (.cmpIzy o1) := statement_of_bytes rfl rfl

theorem cmpIzp (o1 : ByteX) : Statement (.cmpIzp o1) := statement_of_bytes rfl rfl

theorem nopZpxD4 (o1 : ByteX) : Statement (.nopZpxD4 o1) := statement_of_bytes rfl rfl

theorem cmpZpx (o1 : ByteX) : Statement (.cmpZpx o1) := statement_of_bytes rfl rfl

theorem decZpx (o1 : ByteX) : Statement (.decZpx o1) := statement_of_bytes rfl rfl

theorem smb5 (o1 : ByteX) : Statement (.smb5 o1) := statement_of_bytes rfl rfl

theorem cmpAby (o1 : ByteX) (o2 : ByteX) : Statement (.cmpAby o1 o2) := statement_of_bytes rfl rfl

theorem nopAbsDC (o1 : ByteX) (o2 : ByteX) : Statement (.nopAbsDC o1 o2) := statement_of_bytes rfl rfl

theorem cmpAbx (o1 : ByteX) (o2 : ByteX) : Statement (.cmpAbx o1 o2) := statement_of_bytes rfl rfl

theorem decAbx (o1 : ByteX) (o2 : ByteX) : Statement (.decAbx o1 o2) := statement_of_bytes rfl rfl

theorem bbs5 (o1 : ByteX) (o2 : ByteX) : Statement (.bbs5 o1 o2) := statement_of_bytes rfl rfl

theorem cpxImm (o1 : ByteX) : Statement (.cpxImm o1) := statement_of_bytes rfl rfl

theorem sbcIzx (o1 : ByteX) : Statement (.sbcIzx o1) := statement_of_bytes rfl rfl

theorem nopImmE2 (o1 : ByteX) : Statement (.nopImmE2 o1) := statement_of_bytes rfl rfl

theorem cpxZp (o1 : ByteX) : Statement (.cpxZp o1) := statement_of_bytes rfl rfl

theorem sbcZp (o1 : ByteX) : Statement (.sbcZp o1) := statement_of_bytes rfl rfl

theorem incZp (o1 : ByteX) : Statement (.incZp o1) := statement_of_bytes rfl rfl

theorem smb6 (o1 : ByteX) : Statement (.smb6 o1) := statement_of_bytes rfl rfl

theorem sbcImm (o1 : ByteX) : Statement (.sbcImm o1) := statement_of_bytes rfl rfl

theorem cpxAbs (o1 : ByteX) (o2 : ByteX) : Statement (.cpxAbs o1 o2) := statement_of_bytes rfl rfl

theorem sbcAbs (o1 : ByteX) (o2 : ByteX) : Statement (.sbcAbs o1 o2) := statement_of_bytes rfl rfl

theorem incAbs (o1 : ByteX) (o2 : ByteX) : Statement (.incAbs o1 o2) := statement_of_bytes rfl rfl

theorem bbs6 (o1 : ByteX) (o2 : ByteX) : Statement (.bbs6 o1 o2) := statement_of_bytes rfl rfl

theorem beq (o1 : ByteX) : Statement (.beq o1) := statement_of_bytes rfl rfl

theorem sbcIzy (o1 : ByteX) : Statement (.sbcIzy o1) := statement_of_bytes rfl rfl

theorem sbcIzp (o1 : ByteX) : Statement (.sbcIzp o1) := statement_of_bytes rfl rfl

theorem nopZpxF4 (o1 : ByteX) : Statement (.nopZpxF4 o1) := statement_of_bytes rfl rfl

theorem sbcZpx (o1 : ByteX) : Statement (.sbcZpx o1) := statement_of_bytes rfl rfl

theorem incZpx (o1 : ByteX) : Statement (.incZpx o1) := statement_of_bytes rfl rfl

theorem smb7 (o1 : ByteX) : Statement (.smb7 o1) := statement_of_bytes rfl rfl

theorem sbcAby (o1 : ByteX) (o2 : ByteX) : Statement (.sbcAby o1 o2) := statement_of_bytes rfl rfl

theorem nopAbsFC (o1 : ByteX) (o2 : ByteX) : Statement (.nopAbsFC o1 o2) := statement_of_bytes rfl rfl

theorem sbcAbx (o1 : ByteX) (o2 : ByteX) : Statement (.sbcAbx o1 o2) := statement_of_bytes rfl rfl

theorem incAbx (o1 : ByteX) (o2 : ByteX) : Statement (.incAbx o1 o2) := statement_of_bytes rfl rfl

theorem bbs7 (o1 : ByteX) (o2 : ByteX) : Statement (.bbs7 o1 o2) := statement_of_bytes rfl rfl

theorem sampleFetch (d : ByteX) (rw : Bool) (ts : Nat) : Statement (.sampleFetch d rw ts) := statement_of_none rfl

theorem sampleWrite (d : ByteX) (ts : Nat) : Statement (.sampleWrite d ts) := statement_of_none rfl

theorem sampleReadOperand1 (d : ByteX) (ts : Nat) : Statement (.sampleReadOperand1 d ts) := statement_of_none rfl

theorem sampleReadOperand2 (d : ByteX) (ts : Nat) : Statement (.sampleReadOperand2 d ts) := statement_of_none rfl

theorem sampleReadCallDummy (d : ByteX) (ts : Nat) : Statement (.sampleReadCallDummy d ts) := statement_of_none rfl

theorem sampleReadCallOperand2 (d : ByteX) (ts : Nat) : Statement (.sampleReadCallOperand2 d ts) := statement_of_none rfl

theorem sampleReadMemoryRead (d : ByteX) (ts : Nat) : Statement (.sampleReadMemoryRead d ts) := statement_of_none rfl

theorem retireInt (ir : Byte) (o1 : ByteX) (o2 : ByteX) : Statement (.retireInt ir o1 o2) := statement_of_none rfl

theorem brk : Statement .brk := statement_of_bytes rfl rfl

theorem nopImp03 : Statement .nopImp03 := statement_of_bytes rfl rfl

theorem php : Statement .php := statement_of_bytes rfl rfl

theorem aslAcc : Statement .aslAcc := statement_of_bytes rfl rfl

theorem nopImp0B : Statement .nopImp0B := statement_of_bytes rfl rfl

theorem nopImp13 : Statement .nopImp13 := statement_of_bytes rfl rfl

theorem clc : Statement .clc := statement_of_bytes rfl rfl

theorem incAcc : Statement .incAcc := statement_of_bytes rfl rfl

theorem nopImp1B : Statement .nopImp1B := statement_of_bytes rfl rfl

theorem nopImp23 : Statement .nopImp23 := statement_of_bytes rfl rfl

theorem plp : Statement .plp := statement_of_bytes rfl rfl

theorem rolAcc : Statement .rolAcc := statement_of_bytes rfl rfl

theorem nopImp2B : Statement .nopImp2B := statement_of_bytes rfl rfl

theorem nopImp33 : Statement .nopImp33 := statement_of_bytes rfl rfl

theorem sec : Statement .sec := statement_of_bytes rfl rfl

theorem decAcc : Statement .decAcc := statement_of_bytes rfl rfl

theorem nopImp3B : Statement .nopImp3B := statement_of_bytes rfl rfl

theorem rti : Statement .rti := statement_of_bytes rfl rfl

theorem nopImp43 : Statement .nopImp43 := statement_of_bytes rfl rfl

theorem pha : Statement .pha := statement_of_bytes rfl rfl

theorem lsrAcc : Statement .lsrAcc := statement_of_bytes rfl rfl

theorem nopImp4B : Statement .nopImp4B := statement_of_bytes rfl rfl

theorem nopImp53 : Statement .nopImp53 := statement_of_bytes rfl rfl

theorem cli : Statement .cli := statement_of_bytes rfl rfl

theorem phy : Statement .phy := statement_of_bytes rfl rfl

theorem nopImp5B : Statement .nopImp5B := statement_of_bytes rfl rfl

theorem rts : Statement .rts := statement_of_bytes rfl rfl

theorem nopImp63 : Statement .nopImp63 := statement_of_bytes rfl rfl

theorem pla : Statement .pla := statement_of_bytes rfl rfl

theorem rorAcc : Statement .rorAcc := statement_of_bytes rfl rfl

theorem nopImp6B : Statement .nopImp6B := statement_of_bytes rfl rfl

theorem nopImp73 : Statement .nopImp73 := statement_of_bytes rfl rfl

theorem sei : Statement .sei := statement_of_bytes rfl rfl

theorem ply : Statement .ply := statement_of_bytes rfl rfl

theorem nopImp7B : Statement .nopImp7B := statement_of_bytes rfl rfl

theorem nopImp83 : Statement .nopImp83 := statement_of_bytes rfl rfl

theorem dey : Statement .dey := statement_of_bytes rfl rfl

theorem txa : Statement .txa := statement_of_bytes rfl rfl

theorem nopImp8B : Statement .nopImp8B := statement_of_bytes rfl rfl

theorem nopImp93 : Statement .nopImp93 := statement_of_bytes rfl rfl

theorem tya : Statement .tya := statement_of_bytes rfl rfl

theorem txs : Statement .txs := statement_of_bytes rfl rfl

theorem nopImp9B : Statement .nopImp9B := statement_of_bytes rfl rfl

theorem nopImpA3 : Statement .nopImpA3 := statement_of_bytes rfl rfl

theorem tay : Statement .tay := statement_of_bytes rfl rfl

theorem tax : Statement .tax := statement_of_bytes rfl rfl

theorem nopImpAB : Statement .nopImpAB := statement_of_bytes rfl rfl

theorem nopImpB3 : Statement .nopImpB3 := statement_of_bytes rfl rfl

theorem clv : Statement .clv := statement_of_bytes rfl rfl

theorem tsx : Statement .tsx := statement_of_bytes rfl rfl

theorem nopImpBB : Statement .nopImpBB := statement_of_bytes rfl rfl

theorem nopImpC3 : Statement .nopImpC3 := statement_of_bytes rfl rfl

theorem iny : Statement .iny := statement_of_bytes rfl rfl

theorem dex : Statement .dex := statement_of_bytes rfl rfl

theorem wai : Statement .wai := statement_of_bytes rfl rfl

theorem nopImpD3 : Statement .nopImpD3 := statement_of_bytes rfl rfl

theorem cld : Statement .cld := statement_of_bytes rfl rfl

theorem phx : Statement .phx := statement_of_bytes rfl rfl

theorem stp : Statement .stp := statement_of_bytes rfl rfl

theorem nopImpE3 : Statement .nopImpE3 := statement_of_bytes rfl rfl

theorem inx : Statement .inx := statement_of_bytes rfl rfl

theorem nop : Statement .nop := statement_of_bytes rfl rfl

theorem nopImpEB : Statement .nopImpEB := statement_of_bytes rfl rfl

theorem nopImpF3 : Statement .nopImpF3 := statement_of_bytes rfl rfl

theorem sed : Statement .sed := statement_of_bytes rfl rfl

theorem plx : Statement .plx := statement_of_bytes rfl rfl

theorem nopImpFB : Statement .nopImpFB := statement_of_bytes rfl rfl

theorem endOfCapture : Statement .endOfCapture := statement_of_none rfl

theorem retireUnknown : Statement .retireUnknown := statement_of_bytes rfl rfl

end Sys2Proof.Laws.EncodeLength
end

