-- ==== Sys2Proof/Laws/Step.lean ====
section
/-! SUPPORT. What a step can do, said once: the meanings of the sample rows and of END in terms of the retire and the named
updates, and the cases of `step`. -/

namespace Sys2Proof.Machine

open Sys2Proof

/-- The retire at the end of a span, when there is one (R91, R186). -/
def retiredIfSeen (endTs : Nat) (s : State) : State := if s.seen then genericRetire defaultParams endTs s else s

theorem retireIfSeen_eq (endTs : Nat) (s : State) : retireIfSeen endTs s = .next (retiredIfSeen endTs s) := by
  unfold retireIfSeen retiredIfSeen
  split
  · exact retireSpan_eq endTs s
  · rfl

/-- The retire leaves every register but PC. -/
theorem retiredIfSeen_toRegs (endTs : Nat) (s : State) :
    (retiredIfSeen endTs s).toRegs = { s.toRegs with pc := (retiredIfSeen endTs s).pc } := by
  unfold retiredIfSeen
  split
  · exact genericRetire_toRegs ..
  · rfl

@[simp] theorem retiredIfSeen_phase (endTs : Nat) (s : State) : (retiredIfSeen endTs s).phase = s.phase := by
  unfold retiredIfSeen; split <;> simp

@[simp] theorem retiredIfSeen_seen (endTs : Nat) (s : State) : (retiredIfSeen endTs s).seen = s.seen := by
  unfold retiredIfSeen; split <;> simp

@[simp] theorem retiredIfSeen_ir (endTs : Nat) (s : State) : (retiredIfSeen endTs s).ir = s.ir := by
  unfold retiredIfSeen; split <;> simp

@[simp] theorem retiredIfSeen_op1 (endTs : Nat) (s : State) : (retiredIfSeen endTs s).op1 = s.op1 := by
  unfold retiredIfSeen; split <;> simp

@[simp] theorem retiredIfSeen_op2 (endTs : Nat) (s : State) : (retiredIfSeen endTs s).op2 = s.op2 := by
  unfold retiredIfSeen; split <;> simp

@[simp] theorem retiredIfSeen_nops (endTs : Nat) (s : State) : (retiredIfSeen endTs s).nops = s.nops := by
  unfold retiredIfSeen; split <;> simp

@[simp] theorem retiredIfSeen_rem (endTs : Nat) (s : State) : (retiredIfSeen endTs s).rem = s.rem := by
  unfold retiredIfSeen; split <;> simp

@[simp] theorem retiredIfSeen_wcnt (endTs : Nat) (s : State) : (retiredIfSeen endTs s).wcnt = s.wcnt := by
  unfold retiredIfSeen; split <;> simp

@[simp] theorem retiredIfSeen_ncyc (endTs : Nat) (s : State) : (retiredIfSeen endTs s).ncyc = s.ncyc := by
  unfold retiredIfSeen; split <;> simp

@[simp] theorem retiredIfSeen_fetchTs (endTs : Nat) (s : State) : (retiredIfSeen endTs s).fetchTs = s.fetchTs := by
  unfold retiredIfSeen; split <;> simp

@[simp] theorem retiredIfSeen_lastTs (endTs : Nat) (s : State) : (retiredIfSeen endTs s).lastTs = s.lastTs := by
  unfold retiredIfSeen; split <;> simp

@[simp] theorem retiredIfSeen_nb0 (endTs : Nat) (s : State) : (retiredIfSeen endTs s).nb0 = s.nb0 := by
  unfold retiredIfSeen; split <;> simp

@[simp] theorem retiredIfSeen_nb1 (endTs : Nat) (s : State) : (retiredIfSeen endTs s).nb1 = s.nb1 := by
  unfold retiredIfSeen; split <;> simp

@[simp] theorem retiredIfSeen_nb2 (endTs : Nat) (s : State) : (retiredIfSeen endTs s).nb2 = s.nb2 := by
  unfold retiredIfSeen; split <;> simp

@[simp] theorem retiredIfSeen_done (endTs : Nat) (s : State) : (retiredIfSeen endTs s).done = s.done := by
  unfold retiredIfSeen; split <;> simp

@[simp] theorem retiredIfSeen_pending (endTs : Nat) (s : State) : (retiredIfSeen endTs s).pending = s.pending := by
  unfold retiredIfSeen
  split <;> simp

/-- FETCH (R91): admission, retire, load. -/
theorem execSampleFetch_eq (d : ByteX) (rw : Bool) (ts : Nat) (s : State) :
    execSampleFetch d rw ts s = guardSample ts s (.next (loadFetch defaultParams d ts (retiredIfSeen ts s))) := by
  unfold execSampleFetch
  rw [retireIfSeen_eq]
  rfl

/-- END (R186): refused after END, else retire and DONE. -/
theorem execEndOfCapture_eq (s : State) :
    execEndOfCapture s =
      if s.done then .refused .afterEnd else .next { retiredIfSeen (flushEnd s.toRegs) s with done := true } := by
  unfold execEndOfCapture
  rw [retireIfSeen_eq]
  rfl

/-! The arms of `exec` for the rows that inputs select, so that `exec` is not unfolded. -/

@[simp] theorem exec_sampleFetch (d : ByteX) (rw : Bool) (ts : Nat) (s : State) : exec (.sampleFetch d rw ts) s = execSampleFetch d rw ts s := rfl

@[simp] theorem exec_sampleWrite (d : ByteX) (ts : Nat) (s : State) : exec (.sampleWrite d ts) s = execSampleWrite d ts s := rfl

@[simp] theorem exec_sampleReadOperand1 (d : ByteX) (ts : Nat) (s : State) : exec (.sampleReadOperand1 d ts) s = execSampleReadOperand1 d ts s := rfl

@[simp] theorem exec_sampleReadOperand2 (d : ByteX) (ts : Nat) (s : State) : exec (.sampleReadOperand2 d ts) s = execSampleReadOperand2 d ts s := rfl

@[simp] theorem exec_sampleReadCallDummy (d : ByteX) (ts : Nat) (s : State) : exec (.sampleReadCallDummy d ts) s = execSampleReadCallDummy d ts s := rfl

@[simp] theorem exec_sampleReadCallOperand2 (d : ByteX) (ts : Nat) (s : State) : exec (.sampleReadCallOperand2 d ts) s = execSampleReadCallOperand2 d ts s := rfl

@[simp] theorem exec_sampleReadMemoryRead (d : ByteX) (ts : Nat) (s : State) : exec (.sampleReadMemoryRead d ts) s = execSampleReadMemoryRead d ts s := rfl

@[simp] theorem exec_endOfCapture (s : State) : exec .endOfCapture s = execEndOfCapture s := rfl

/-- A step with an input pending. -/
theorem step_cons {s : State} {inp : Input} {rest : List Input} (hp : s.pending = inp :: rest) :
    step s = match inputInstr defaultParams s.toRegs inp with
      | .error r => .refused r
      | .ok i => consume rest (exec i s) := by
  cases s
  cases hp
  rfl

/-- A sample with known control lines decodes by `decodeSample`. -/
theorem inputInstr_sample (P : Params) (r : Regs) {m : Sample} {rw sync : Bool} (hr : m.rw = .ofBit rw)
    (hs : m.sync = .ofBit sync) :
    inputInstr P r (.sample m) = .ok (decodeSample r.phase r.rem (isCall P r.ir) m.d.value rw sync m.ts) := by
  cases rw <;> cases sync <;> simp [inputInstr, hr, hs, Level.ofBit, Level.bit?]

/-- A level is a bit's or indeterminate. -/
theorem Level.eq_ofBit (l : Level) : l = .indeterminate ∨ ∃ b, l = .ofBit b := by
  cases l with
  | zero => exact .inr ⟨false, rfl⟩
  | one => exact .inr ⟨true, rfl⟩
  | indeterminate => exact .inl rfl

/-- All a step can do when it answers a next state: hold the state with no input, or execute the row that the first input
selects and consume the input. -/
theorem step_cases {s t : State} (h : step s = .next t) :
    (s.pending = [] ∧ t = s) ∨
    ∃ inp rest i u, s.pending = inp :: rest ∧ inputInstr defaultParams s.toRegs inp = .ok i ∧ exec i s = .next u ∧
      t = { u with pending := rest } := by
  unfold step at h
  split at h
  · next hp => exact .inl ⟨hp, by cases h; rfl⟩
  · next inp rest hp =>
    split at h
    · cases h
    · next i hi =>
      cases hu : exec i s with
      | next u => exact .inr ⟨inp, rest, i, u, hp, hi, hu, by simpa [hu, consume] using h.symm⟩
      | fault f => cases f
      | refused r => simp [hu, consume] at h

/-- The next states of the rows that inputs select: for each kind of input, the state before the input is consumed. -/
inductive InputStep (s : State) : Input → State → Prop where
  | fetch (m : Sample) (hs : m.sync = .one) (ho : ∀ t, s.lastTs = some t → t < m.ts) :
      InputStep s (.sample m) (loadFetch defaultParams m.d.value m.ts (retiredIfSeen m.ts s))
  | write (m : Sample) (hs : m.sync = .zero) (hw : m.rw = .zero) (ho : ∀ t, s.lastTs = some t → t < m.ts) :
      InputStep s (.sample m) (writeSample defaultParams m.d.value m.ts s)
  | operand1 (m : Sample) (hs : m.sync = .zero) (hw : m.rw = .one) (ho : ∀ t, s.lastTs = some t → t < m.ts)
      (hp : s.phase = .fetch) (hr : 0 < s.rem) :
      InputStep s (.sample m) (readOperand1 defaultParams m.d.value m.ts s)
  | operand2 (m : Sample) (hs : m.sync = .zero) (hw : m.rw = .one) (ho : ∀ t, s.lastTs = some t → t < m.ts)
      (hp : s.phase = .operand1) (hr : 0 < s.rem) (hc : isCall defaultParams s.ir = false) :
      InputStep s (.sample m) (readOperand2 defaultParams m.d.value m.ts s)
  | callDummy (m : Sample) (hs : m.sync = .zero) (hw : m.rw = .one) (ho : ∀ t, s.lastTs = some t → t < m.ts)
      (hp : s.phase = .operand1) (hr : 0 < s.rem) (hc : isCall defaultParams s.ir = true) :
      InputStep s (.sample m) (readMemory defaultParams m.d.value m.ts s)
  | callOperand2 (m : Sample) (hs : m.sync = .zero) (hw : m.rw = .one) (ho : ∀ t, s.lastTs = some t → t < m.ts)
      (hp : s.phase ≠ .fetch) (hp' : s.phase ≠ .operand1) (hr : 0 < s.rem) (hc : isCall defaultParams s.ir = true) :
      InputStep s (.sample m) (readOperand2 defaultParams m.d.value m.ts s)
  | memoryRead (m : Sample) (hs : m.sync = .zero) (hw : m.rw = .one) (ho : ∀ t, s.lastTs = some t → t < m.ts)
      (hn : s.rem = 0 ∨ (s.phase ≠ .fetch ∧ s.phase ≠ .operand1 ∧ isCall defaultParams s.ir = false)) :
      InputStep s (.sample m) (readMemory defaultParams m.d.value m.ts s)
  | endOfCapture : InputStep s .endOfCapture { retiredIfSeen (flushEnd s.toRegs) s with done := true }

/-- A guarded sample that answers a next state was admitted. -/
theorem guardSample_next {ts : Nat} {s u t : State} (h : guardSample ts s (.next u) = .next t) :
    s.done = false ∧ (∀ k, s.lastTs = some k → k < ts) ∧ t = u := by
  rcases guardSample_cases ts s (.next u) with ⟨_, hc⟩ | ⟨_, _, hc⟩ | ⟨hd, ho, hc⟩
  · rw [hc] at h; cases h
  · rw [hc] at h; cases h
  · rw [hc] at h; cases h; exact ⟨hd, ho, rfl⟩

/-- The cases of a step that takes an input (R62, R100, R186): DONE was 0, and the state is one of `InputStep`. -/
theorem step_input_cases {s t : State} {inp : Input} {rest : List Input} (hp : s.pending = inp :: rest)
    (h : step s = .next t) : s.done = false ∧ ∃ u, InputStep s inp u ∧ t = { u with pending := rest } := by
  obtain ⟨hp', _⟩ | ⟨inp', rest', i, u, hp', hi, hu, rfl⟩ := step_cases h
  · simp [hp] at hp'
  · obtain ⟨rfl, rfl⟩ : inp = inp' ∧ rest = rest' := by simpa [hp] using hp'
    cases inp with
    | endOfCapture =>
      simp only [inputInstr, Except.ok.injEq] at hi
      subst hi
      simp only [exec_endOfCapture, execEndOfCapture_eq] at hu
      split at hu
      · cases hu
      · next hd => cases hu; exact ⟨by simpa using hd, _, .endOfCapture, rfl⟩
    | sample m =>
      obtain hr | ⟨rw, hr⟩ := Level.eq_ofBit m.rw
      · simp [inputInstr, hr, Level.bit?] at hi
      obtain hs | ⟨sync, hs⟩ := Level.eq_ofBit m.sync
      · cases rw <;> simp [inputInstr, hr, hs, Level.bit?, Level.ofBit] at hi
      rw [inputInstr_sample _ _ hr hs] at hi
      cases hi
      have key : ∀ {v : State}, guardSample m.ts s (.next v) = .next u →
          ((∀ k, s.lastTs = some k → k < m.ts) → InputStep s (.sample m) v) →
          s.done = false ∧ ∃ u', InputStep s (.sample m) u' ∧ { u with pending := rest } = { u' with pending := rest } := by
        intro v hv hstep
        obtain ⟨hd, ho, rfl⟩ := guardSample_next hv
        exact ⟨hd, u, hstep ho, rfl⟩
      unfold decodeSample at hu
      cases sync with
      | true =>
        simp only [if_true, exec_sampleFetch, execSampleFetch_eq] at hu
        exact key hu fun ho => .fetch m (by simpa [Level.ofBit] using hs) ho
      | false =>
        have hs0 : m.sync = .zero := by simpa [Level.ofBit] using hs
        cases rw with
        | false =>
          simp only [Bool.false_eq_true, if_false, Bool.not_false, if_true, exec_sampleWrite, execSampleWrite] at hu
          exact key hu fun ho => .write m hs0 (by simpa [Level.ofBit] using hr) ho
        | true =>
          have hr1 : m.rw = .one := by simpa [Level.ofBit] using hr
          simp only [Bool.false_eq_true, if_false, Bool.not_true] at hu
          split at hu
          · next hc => exact key hu fun ho => .operand1 m hs0 hr1 ho hc.1 hc.2
          · next hc1 =>
            split at hu
            · next hc =>
              split at hu
              · next hcall => exact key hu fun ho => .callDummy m hs0 hr1 ho hc.1 hc.2 hcall
              · next hcall => exact key hu fun ho => .operand2 m hs0 hr1 ho hc.1 hc.2 (by simpa using hcall)
            · next hc2 =>
              split at hu
              · next hc =>
                refine key hu fun ho => .callOperand2 m hs0 hr1 ho ?_ ?_ hc.2 hc.1
                · exact fun h => hc1 ⟨h, hc.2⟩
                · exact fun h => hc2 ⟨h, hc.2⟩
              · next hc3 =>
                refine key hu fun ho => .memoryRead m hs0 hr1 ho ?_
                rcases Nat.eq_zero_or_pos s.rem with h0 | h0
                · exact .inl h0
                · exact .inr ⟨fun h => hc1 ⟨h, h0⟩, fun h => hc2 ⟨h, h0⟩, by simpa [h0] using hc3⟩

end Sys2Proof.Machine
end

