-- ==== Sys2Proof/Tests/Slice0.lean ====
section
/-! SUPPORT. Tests: the smoke test of WellFormed, words written out from the encodings of spec/30_encoding.md, one-step tests
whose expected values are the spec's own examples and vectors (spec/95_test_vectors.md, spec/43_control_flow.md), and a
witness for the hypotheses of every statement that has some. -/

namespace Sys2Proof.Tests

open Sys2Proof Sys2Proof.Machine Sys2Proof.Safety

set_option maxRecDepth 4000

/-! ## Helpers -/

/-- The state a step answers; the state itself when it stops. -/
def after (s : State) : State :=
  match step s with
  | .next t => t
  | .fault _ => s
  | .refused _ => s

/-- The step answers a next state. -/
def goesOn (s : State) : Bool :=
  match step s with
  | .next _ => true
  | .fault _ => false
  | .refused _ => false

/-- Why the step is refused, if it is. -/
def refusal (s : State) : Option Refusal :=
  match step s with
  | .next _ => none
  | .fault _ => none
  | .refused r => some r

/-- Reset with this PC_RESET and these inputs delivered. -/
def fresh (pc : WordX) (inputs : List Input) : State := { State.resetWith pc with pending := inputs }

/-- A running span: opcode, operands, REM, WCNT, NCYC and the lanes; END is the next input. -/
def span (pc : WordX) (ir o1 o2 : ByteX) (wcnt ncyc : Nat) (nb0 nb1 nb2 : ByteX) : State :=
  { State.resetWith pc with
    seen := true, ir := ir, op1 := o1, op2 := o2, nops := lenX defaultParams ir - 1, wcnt := wcnt, ncyc := ncyc,
    fetchTs := 0, lastTs := some (ncyc - 1), nb0 := nb0, nb1 := nb1, nb2 := nb2, pending := [.endOfCapture] }

/-- Just after the fetch of this opcode byte at timestamp 0, with these inputs next. -/
def fetched (pc : WordX) (ir : ByteX) (inputs : List Input) : State :=
  { State.resetWith pc with
    phase := .fetch, seen := true, ir := ir, rem := lenX defaultParams ir - 1, ncyc := 1, fetchTs := 0, lastTs := some 0,
    pending := inputs }

/-- Text, kind and new PC of the only instruction event. -/
def line (s : State) : Option (Text × Kind × WordX) :=
  match instrEvents (after s).events with
  | [e] => some (e.text, e.kind, (after s).pc)
  | _ => none

/-- `R:hh`, `W:hh`, `F:hh` of the trace notation (00_scope.md section 5). -/
def rd (d : ByteX) (ts : Nat) : Input := .sample (mkSample d true false ts)

def wr (d : ByteX) (ts : Nat) : Input := .sample (mkSample d false false ts)

def fe (d : ByteX) (ts : Nat) : Input := .sample (mkSample d true true ts)

/-! ## WellFormed: the one check, on an ill-formed term, and terms it accepts -/

theorem test_wellFormed_refuses_int_of_zero : ¬ WellFormed (.retireInt 0x00 none none) := by decide

theorem test_wellFormed_accepts : WellFormed (.retireInt 0xEA none none) ∧ WellFormed (.ldaImm none) := by decide

/-! ## Decoding: words written out from R63 and R73, a family each -/

theorem test_decode_imp : decodeTableWord 8 0b11101010 = some .nop := by decide

theorem test_decode_acc : decodeTableWord 8 0b00011010 = some .incAcc := by decide

theorem test_decode_imm : decodeTableWord 16 0b01000010_10101001 = some (.ldaImm (some 0x42)) := by decide

theorem test_decode_zp : decodeTableWord 16 0b00010000_10100101 = some (.ldaZp (some 0x10)) := by decide

theorem test_decode_zpx : decodeTableWord 16 0b00010000_10110101 = some (.ldaZpx (some 0x10)) := by decide

theorem test_decode_zpy : decodeTableWord 16 0b00010000_10110110 = some (.ldxZpy (some 0x10)) := by decide

theorem test_decode_izx : decodeTableWord 16 0b00010000_10100001 = some (.ldaIzx (some 0x10)) := by decide

theorem test_decode_izy : decodeTableWord 16 0b00010000_10110001 = some (.ldaIzy (some 0x10)) := by decide

theorem test_decode_izp : decodeTableWord 16 0b00010000_10110010 = some (.ldaIzp (some 0x10)) := by decide

theorem test_decode_abs : decodeTableWord 24 0b00010010_00110100_11101110 = some (.incAbs (some 0x34) (some 0x12)) := by decide

theorem test_decode_abx : decodeTableWord 24 0b00010010_00110100_10111101 = some (.ldaAbx (some 0x34) (some 0x12)) := by decide

theorem test_decode_aby : decodeTableWord 24 0b00010010_00110100_10111001 = some (.ldaAby (some 0x34) (some 0x12)) := by decide

theorem test_decode_zpr : decodeTableWord 24 0b11111101_00010000_10001111 = some (.bbs0 (some 0x10) (some 0xFD)) := by decide

theorem test_decode_rel : decodeTableWord 16 0b10000000_00010000 = some (.bpl (some 0x80)) := by decide

theorem test_decode_jumps :
    decodeTableWord 24 0b00000110_00010000_00100000 = some (.jsr (some 0x10) (some 0x06)) ∧
    decodeTableWord 24 0b00000110_00000000_01001100 = some (.jmpAbs (some 0x00) (some 0x06)) ∧
    decodeTableWord 24 0b00010010_00110100_01101100 = some (.jmpInd (some 0x34) (some 0x12)) ∧
    decodeTableWord 24 0b00010010_00110100_01111100 = some (.jmpIax (some 0x34) (some 0x12)) := by decide

theorem test_decode_returns : decodeTableWord 8 0b01100000 = some .rts ∧ decodeTableWord 8 0b01000000 = some .rti ∧
    decodeTableWord 8 0b00000000 = some .brk := by decide

theorem test_decode_reserved : decodeTableWord 24 0b00010010_00110100_01011100 = some (.nopAbs5C (some 0x34) (some 0x12)) := by
  decide

/-- Bytes that hold no whole instruction are refused by name. -/
theorem test_decode_truncated : decode [some 0xAD, some 0x34] = .error (.missingOperand 0xAD) := by rfl

/-- One data line indeterminate: the whole byte is X (R61). -/
theorem test_lines_indeterminate :
    (Lines.mk .one .zero .one .zero .one .indeterminate .zero .one).value = none := by decide

/-- 0xA9 is 1010 1001, line 0 the least significant bit (R60, R61). -/
theorem test_lines_value : (Lines.mk .one .zero .one .zero .one .zero .zero .one).value = some 0xA9 := by decide

/-- The sample rows as inputs: each decodes back to its row in registers that select it (R62, R93 to R97). -/
theorem test_encodeInput :
    encodeInput (.sampleFetch (some 0xEA) false 3) = some (.sample (mkSample (some 0xEA) false true 3)) ∧
    encodeInput (.sampleReadOperand1 none 1) = some (rd none 1) ∧ encodeInput .endOfCapture = some .endOfCapture := by decide

/-- R184: categories 0, 1 to 5 by phase, and 6. -/
theorem test_categories : category (.data 0 1 none (txt "??")) = 0 ∧ category (.phaseEv 0 1 .fetch (txt "Fetch")) = 1 ∧
    category (.phaseEv 0 1 .memoryWrite (txt "MemoryWrite")) = 5 := by decide

/-! ## Reset (Z1) and samples before the first fetch (V2, V8, V9) -/

theorem test_reset_registers : State.reset.phase = .memoryRead ∧ State.reset.seen = false ∧ State.reset.ir = none ∧
    State.reset.lastTs = none ∧ State.reset.done = false ∧ State.reset.events = [] := by decide

theorem test_end_after_reset : instrEvents (after (fresh (some 0x0200) [.endOfCapture])).events = [] ∧
    (after (fresh (some 0x0200) [.endOfCapture])).done = true ∧ (after (fresh (some 0x0200) [.endOfCapture])).pc = some 0x0200 := by
  decide

theorem test_read_before_fetch : (after (fresh (some 0x1000) [rd (some 0x12) 0])).phase = .memoryRead ∧
    (after (fresh (some 0x1000) [rd (some 0x12) 0])).nb2 = some 0x12 := by decide

/-! ## Samples (V1, V3, V4, V5, V6, V55, E1) -/

/-- E1: the first fetch emits Data and PhaseEv and no instruction event. -/
theorem test_first_fetch_events : (after (fresh (some 0x0200) [fe (some 0xA9) 0])).events =
    [.data 0 1 (some 0xA9) (txt "A9"), .phaseEv 0 1 .fetch (txt "Fetch")] := by decide

theorem test_fetch_loads : (after (fresh (some 0x0200) [fe (some 0xAD) 0])).rem = 2 ∧
    (after (fresh (some 0x0200) [fe (some 0xAD) 0])).ncyc = 1 ∧ (after (fresh (some 0x0200) [fe (some 0xAD) 0])).seen = true := by
  decide

/-- E1: a fetch emits the line of the span that ends before its own events. -/
theorem test_fetch_retires : (after { span (some 0x0200) (some 0xA9) (some 0x42) none 0 2 none none none with
      pending := [fe (some 0xEA) 2] }).events =
    [.instr { start := 0, stop := 2, kind := .insn, pc := some 0x0200, ir := some 0xA9, op1 := some 0x42, op2 := none,
              tgt := none, text := txt "0200 LDA #42" },
     .data 2 3 (some 0xEA) (txt "EA"), .phaseEv 2 3 .fetch (txt "Fetch")] := by decide

/-- V5: a sample with sync = 1 and rw = 0 is a fetch, and not counted as a write. -/
theorem test_fetch_with_write_line : (after { span (some 0x0400) (some 0x48) none none 2 3 none none none with
      pending := [.sample (mkSample (some 0xEA) false true 3)] }).ir = some 0xEA ∧
    (after { span (some 0x0400) (some 0x48) none none 2 3 none none none with
      pending := [.sample (mkSample (some 0xEA) false true 3)] }).wcnt = 0 := by decide

theorem test_write_counts : (after (fetched (some 0x0400) (some 0x48) [wr (some 0x11) 1])).wcnt = 1 ∧
    (after (fetched (some 0x0400) (some 0x48) [wr (some 0x11) 1])).phase = .memoryWrite ∧
    (after (fetched (some 0x0400) (some 0x48) [wr (some 0x11) 1])).nb2 = none := by decide

theorem test_operand1 : (after (fetched (some 0x0200) (some 0xA9) [rd (some 0x42) 1])).op1 = some 0x42 ∧
    (after (fetched (some 0x0200) (some 0xA9) [rd (some 0x42) 1])).phase = .operand1 ∧
    (after (fetched (some 0x0200) (some 0xA9) [rd (some 0x42) 1])).rem = 0 := by decide

/-- T9, V6: an indeterminate operand is captured as X and shown `??`. -/
theorem test_operand1_indeterminate : (after (fetched (some 0x0200) (some 0xA9) [rd none 1])).events =
    [.data 1 2 none (txt "??"), .phaseEv 1 2 .operand1 (txt "Operand1")] := by decide

theorem test_operand2 : (after { fetched (some 0x0300) (some 0xAD) [rd (some 0x12) 2] with
      phase := .operand1, op1 := some 0x34, nops := 1, rem := 1, ncyc := 2, lastTs := some 1 }).op2 = some 0x12 := by decide

/-- V4: the dummy read of the call is folded and REM stays. -/
theorem test_call_dummy : (after { fetched (some 0x0600) (some 0x20) [rd (some 0xFF) 2] with
      phase := .operand1, op1 := some 0x10, nops := 1, rem := 1, ncyc := 2, lastTs := some 1 }).nb2 = some 0xFF ∧
    (after { fetched (some 0x0600) (some 0x20) [rd (some 0xFF) 2] with
      phase := .operand1, op1 := some 0x10, nops := 1, rem := 1, ncyc := 2, lastTs := some 1 }).rem = 1 := by decide

/-- V4, V55: after the writes the call's second operand is captured, and not folded. -/
theorem test_call_operand2 : (after { fetched (some 0x0600) (some 0x20) [rd (some 0x06) 4] with
      phase := .memoryWrite, op1 := some 0x10, nops := 1, rem := 1, wcnt := 2, ncyc := 4, lastTs := some 3 }).op2 = some 0x06 ∧
    (after { fetched (some 0x0600) (some 0x20) [rd (some 0x06) 4] with
      phase := .memoryWrite, op1 := some 0x10, nops := 1, rem := 1, wcnt := 2, ncyc := 4, lastTs := some 3 }).nb2 = none := by
  decide

/-- V3: a write during operand capture ends it: the next read is MemoryRead. -/
theorem test_broken_capture : (after { fetched (some 0x0300) (some 0xAD) [rd (some 0x12) 3] with
      phase := .memoryWrite, op1 := some 0x34, nops := 1, rem := 1, wcnt := 1, ncyc := 3, lastTs := some 2 }).phase = .memoryRead ∧
    (after { fetched (some 0x0300) (some 0xAD) [rd (some 0x12) 3] with
      phase := .memoryWrite, op1 := some 0x34, nops := 1, rem := 1, wcnt := 1, ncyc := 3, lastTs := some 2 }).op2 = none := by
  decide

/-! ## Refusals (X1 to X7) -/

theorem test_after_end : refusal { fresh (some 0x0200) [rd (some 0x00) 2] with done := true } = some .afterEnd ∧
    refusal { fresh (some 0x0200) [.endOfCapture] with done := true } = some .afterEnd := by decide

theorem test_control_indeterminate :
    refusal (fetched (some 0x0200) (some 0xA9) [.sample { mkSample (some 0x42) true false 1 with rw := .indeterminate }]) =
      some .controlIndeterminate ∧
    refusal (fetched (some 0x0200) (some 0xA9) [.sample { mkSample (some 0x42) true false 1 with sync := .indeterminate }]) =
      some .controlIndeterminate := by decide

theorem test_timestamp_order : refusal { fetched (some 0x0200) (some 0xA9) [rd (some 0x42) 5] with lastTs := some 5 } = some .timestampOrder ∧
    refusal { fetched (some 0x0200) (some 0xA9) [rd (some 0x42) 6] with lastTs := some 5 } = none := by decide

/-! ## Lines: one per mode and per control-flow class -/

theorem test_line_imp : line (span (some 0x0200) (some 0xEA) none none 0 2 none none (some 0xA9)) = some (txt "0200 NOP", .insn, some 0x0201) := by
  decide

theorem test_line_acc : line (span (some 0x0200) (some 0x0A) none none 0 2 none none (some 0xA9)) = some (txt "0200 ASL A", .insn, some 0x0201) := by
  decide

theorem test_line_imm : line (span (some 0x0200) (some 0xA9) (some 0x42) none 0 2 none none none) = some (txt "0200 LDA #42", .insn, some 0x0202) := by
  decide

theorem test_line_zp : line (span (some 0x0200) (some 0xA5) (some 0x10) none 0 3 none none (some 0x77)) = some (txt "0200 LDA 10", .insn, some 0x0202) := by
  decide

theorem test_line_zpx : line (span (some 0x0200) (some 0xB5) (some 0x10) none 0 4 none (some 0x00) (some 0x77)) = some (txt "0200 LDA 10,X", .insn, some 0x0202) := by
  decide

theorem test_line_zpy : line (span (some 0x0200) (some 0xB6) (some 0x10) none 0 4 none (some 0x00) (some 0x77)) = some (txt "0200 LDX 10,Y", .insn, some 0x0202) := by
  decide

theorem test_line_izx : line (span (some 0x0200) (some 0xA1) (some 0x10) none 0 6 (some 0x34) (some 0x12) (some 0x77)) =
    some (txt "0200 LDA (10,X)", .insn, some 0x0202) := by decide

theorem test_line_izy : line (span (some 0x0200) (some 0xB1) (some 0x10) none 0 5 (some 0x34) (some 0x12) (some 0x77)) =
    some (txt "0200 LDA (10),Y", .insn, some 0x0202) := by decide

theorem test_line_izp : line (span (some 0x0200) (some 0xB2) (some 0x10) none 0 5 (some 0x34) (some 0x12) (some 0x77)) =
    some (txt "0200 LDA (10)", .insn, some 0x0202) := by decide

/-- V10: the advance wraps. -/
theorem test_line_abs_wraps : line (span (some 0xFFFE) (some 0xAD) (some 0x00) (some 0x10) 0 4 none none (some 0x55)) =
    some (txt "FFFE LDA 1000", .insn, some 0x0001) := by decide

theorem test_line_abx : line (span (some 0x0200) (some 0xBD) (some 0x34) (some 0x12) 0 4 none none (some 0x77)) =
    some (txt "0200 LDA 1234,X", .insn, some 0x0203) := by decide

theorem test_line_aby : line (span (some 0x0200) (some 0xB9) (some 0x34) (some 0x12) 0 4 none none (some 0x77)) =
    some (txt "0200 LDA 1234,Y", .insn, some 0x0203) := by decide

/-- V22, V23. -/
theorem test_line_zpr : line (span (some 0x0600) (some 0x0F) (some 0x10) (some 0x55) 0 5 none none none) =
      some (txt "0600 BBR0 10,0658", .insn, some 0x0603) ∧
    line (span (some 0x0600) (some 0x8F) (some 0x10) (some 0xFD) 0 4 none none none) =
      some (txt "0600 BBS0 10,0600", .insn, some 0x0603) := by decide

/-- V25, V26. -/
theorem test_line_reserved : line (span (some 0x0200) (some 0x02) (some 0x99) none 0 2 none none none) =
      some (txt "0200 NOP #99", .insn, some 0x0202) ∧
    line (span (some 0x0200) (some 0x5C) (some 0x34) (some 0x12) 0 8 none none none) =
      some (txt "0200 NOP 1234", .insn, some 0x0203) := by decide

/-- V34, V35. -/
theorem test_line_bne : line (span (some 0x0603) (some 0xD0) (some 0xFD) none 0 2 none none none) =
      some (txt "0603 BNE 0602", .insn, some 0x0605) ∧
    line (span (some 0x0603) (some 0xD0) (some 0xFD) none 0 3 none none none) =
      some (txt "0603 BNE 0602", .insn, some 0x0602) := by decide

/-- V37, V38: both wraps. -/
theorem test_line_branch_wraps : line (span (some 0xFFF8) (some 0x80) (some 0x10) none 0 3 none none none) =
      some (txt "FFF8 BRA 000A", .insn, some 0x000A) ∧
    line (span (some 0x0010) (some 0x10) (some 0x80) none 0 3 none none none) =
      some (txt "0010 BPL FF92", .insn, some 0xFF92) := by decide

/-- V4, V54. -/
theorem test_line_jsr : line (span (some 0x0600) (some 0x20) (some 0x10) (some 0x06) 2 6 none none (some 0xFF)) =
      some (txt "0600 JSR 0610", .insn, some 0x0610) ∧
    line (span (some 0x0600) (some 0x20) (some 0x10) none 0 2 none none none) = some (txt "0600 JSR ??10", .insn, none) := by decide

/-- V29, V30. -/
theorem test_line_jmp : line (span (some 0x0200) (some 0x4C) (some 0x00) (some 0x06) 0 3 none none none) =
      some (txt "0200 JMP 0600", .insn, some 0x0600) ∧
    line (span (some 0x0200) (some 0x4C) (some 0x00) none 0 3 none none none) = some (txt "0200 JMP ??00", .insn, none) := by decide

/-- V31, V33. -/
theorem test_line_jmp_indirect : line (span (some 0x0200) (some 0x6C) (some 0x34) (some 0x12) 0 5 none (some 0x00) (some 0x03)) =
      some (txt "0200 JMP (1234)", .insn, some 0x0300) ∧
    line (span (some 0x0200) (some 0x7C) (some 0x34) (some 0x12) 0 6 (some 0x12) (some 0x78) (some 0x56)) =
      some (txt "0200 JMP (1234,X)", .insn, some 0x5678) := by decide

/-- V42, V43: the last read is ignored; the plus one wraps. -/
theorem test_line_rts : line (span (some 0x0610) (some 0x60) none none 0 6 (some 0x02) (some 0x06) (some 0xAD)) =
      some (txt "0610 RTS", .insn, some 0x0603) ∧
    line (span (some 0x0610) (some 0x60) none none 0 6 (some 0xFF) (some 0xFF) (some 0xAD)) =
      some (txt "0610 RTS", .insn, some 0x0000) := by decide

/-- V45, V46. -/
theorem test_line_rti : line (span (some 0x0700) (some 0x40) none none 0 6 (some 0x21) (some 0x05) (some 0x06)) =
      some (txt "0700 RTI", .insn, some 0x0605) ∧
    line (span (some 0x0700) (some 0x40) none none 0 6 (some 0x21) none (some 0x06)) = some (txt "0700 RTI", .insn, none) := by decide

/-- V47: three writes and opcode 0x00 is BRK. -/
theorem test_line_brk : line (span (some 0x0600) (some 0x00) none none 3 7 (some 0xEA) (some 0x00) (some 0x07)) =
    some (txt "0600 BRK", .insn, some 0x0700) := by decide

/-- V49: three writes and another opcode is an interrupt. -/
theorem test_line_int : line (span (some 0x0605) (some 0xAD) (some 0xAD) none 3 7 none (some 0x00) (some 0x07)) =
    some (txt "0605 INT ??AD", .int, some 0x0700) := by decide

/-- V52: four writes are no interrupt. -/
theorem test_line_four_writes : line (span (some 0x0600) (some 0xEA) none none 4 7 none (some 0x00) (some 0x07)) =
    some (txt "0600 NOP", .insn, some 0x0601) := by decide

/-- V53: an unknown opcode, with three writes. -/
theorem test_line_unknown : line (span (some 0x0200) none none none 3 5 none none (some 0x01)) =
    some (txt "0200 ???", .insn, none) := by decide

/-- The word the host places runs at the next step: V29's jump. -/
theorem test_withFetchWord : line (State.reset.withFetchWord 24 0b00000110_00000000_01001100) =
    some (txt "???? JMP 0600", .insn, some 0x0600) := by decide

/-! ## Witnesses: concrete states and operands that meet the hypotheses of each statement, at the edges of each clause -/

/-- A running span with this many writes. -/
def writes (n : Nat) : State := span (some 0x0200) (some 0xEA) none none n (n + 1) none none none

/-- Two writes and four are not three, so the statements about one class or mode apply (R112). -/
theorem witness_not_three_writes : (writes 2).wcnt ≠ 3 ∧ (writes 4).wcnt ≠ 3 := by decide

/-- Each disjunct: no row for 0xFF; no mode ZPR; lengths 0 and 4; 0xA9 with another mnemonic or mode; 0x00 of class SEQ;
then a row of each class with a mode that R71 does not give it. -/
theorem witness_ConstructionRefusesBadTables :
    (∃ ops : OpCandidate, ∃ b, ops b = none) ∧ (∃ modes : ModeCandidate, ∃ m, modes m = none) ∧
    (∃ modes : ModeCandidate, ∃ m row, modes m = some row ∧ row.length < 1) ∧
    (∃ modes : ModeCandidate, ∃ m row, modes m = some row ∧ 3 < row.length) ∧
    (∃ ops : OpCandidate, ∃ d, ops 0xA9 = some d ∧ d.mnemonic ≠ txt "LDA") ∧
    (∃ ops : OpCandidate, ∃ d, ops 0xA9 = some d ∧ d.mode ≠ .imm) ∧
    (∃ ops : OpCandidate, ∃ d, ops 0x00 = some d ∧ d.cls ≠ .brk) ∧
    (∃ ops : OpCandidate, ∃ b d, ops b = some d ∧ d.cls = .jmpind ∧ d.mode ≠ .ind ∧ d.mode ≠ .iax) ∧
    (∃ ops : OpCandidate, ∃ b d, ops b = some d ∧ d.cls = .jmpabs ∧ d.mode ≠ .abs) ∧
    (∃ ops : OpCandidate, ∃ b d, ops b = some d ∧ d.cls = .branch ∧ d.mode ≠ .rel) ∧
    (∃ ops : OpCandidate, ∃ b d, ops b = some d ∧ d.cls = .rts ∧ d.mode = .rel) ∧
    (∃ ops : OpCandidate, ∃ b d, ops b = some d ∧ d.cls = .seq ∧ d.mode = .rel) :=
  ⟨⟨fun b => if b = 0xFF then none else some (optable b), 0xFF, by decide⟩,
   ⟨fun m => if m = .zpr then none else some (modetable m), .zpr, by decide⟩,
   ⟨fun m => some { modetable m with length := 0 }, .imp, _, rfl, by decide⟩,
   ⟨fun m => some { modetable m with length := 4 }, .imp, _, rfl, by decide⟩,
   ⟨fun b => some { optable b with mnemonic := txt "LDX" }, _, rfl, by decide⟩,
   ⟨fun b => some { optable b with mode := .zp }, _, rfl, by decide⟩,
   ⟨fun b => some { optable b with cls := .seq }, _, rfl, by decide⟩,
   ⟨fun b => some { optable b with mode := .abs }, 0x6C, _, rfl, by decide, by decide, by decide⟩,
   ⟨fun b => some { optable b with mode := .ind }, 0x4C, _, rfl, by decide, by decide⟩,
   ⟨fun b => some { optable b with mode := .zpr }, 0xD0, _, rfl, by decide, by decide⟩,
   ⟨fun b => some { optable b with mode := .rel }, 0x60, _, rfl, by decide, by decide⟩,
   ⟨fun b => some { optable b with mode := .rel }, 0xEA, _, rfl, by decide, by decide⟩⟩

theorem witness_DecodeInvertsEncode : encode (.bbr0 (some 0x00) none) = some [some 0x0F, some 0x00, none] ∧
    encode .brk = some [some 0x00] ∧ encode (.bbs7 (some 0xFF) (some 0xFF)) = some [some 0xFF, some 0xFF, some 0xFF] ∧
    encode .retireUnknown = some [none] := by decide

theorem witness_EncodeInvertsDecode : decode [some 0xA9, none, some 0x01] = .ok (.ldaImm none, [some 0x01]) ∧
    decode [none] = .ok (.retireUnknown, []) := ⟨rfl, rfl⟩

/-- One line indeterminate: the highest, the lowest. -/
theorem witness_DataValueOfLines :
    (Lines.mk .indeterminate .one .one .one .one .one .one .one).d7 = .indeterminate ∧
    (Lines.mk .one .one .one .one .one .one .one .indeterminate).d0 = .indeterminate := by decide

/-- The kinds: fetch with rw 0 and 1, write, read. -/
theorem witness_SampleKindPriority :
    (mkSample none false true 0).sync = .one ∧ (mkSample none true true 0).sync = .one ∧
    (mkSample none false false 0).sync = .zero ∧ (mkSample none false false 0).rw = .ofBit false ∧
    (mkSample none true false 0).sync = .zero ∧ (mkSample none true false 0).rw = .ofBit true := by decide

/-- Registers that select a READ row: PHASE, REM and the opcode. -/
def readRegs (p : Phase) (rem : Nat) (ir : Byte) : Regs :=
  { (State.resetWith none).toRegs with phase := p, rem := rem, ir := some ir, seen := true }

/-- Each READ row is selected somewhere, at the least REM that allows it. -/
theorem witness_Selected :
    Selected (readRegs .fetch 1 0xA9) (.sampleReadOperand1 none 1) ∧
    Selected (readRegs .operand1 1 0xAD) (.sampleReadOperand2 none 2) ∧
    Selected (readRegs .operand1 1 0x20) (.sampleReadCallDummy none 2) ∧
    Selected (readRegs .memoryWrite 1 0x20) (.sampleReadCallOperand2 none 4) ∧
    Selected (readRegs .fetch 0 0xEA) (.sampleReadMemoryRead none 1) ∧
    Selected (readRegs .memoryWrite 1 0xAD) (.sampleReadMemoryRead none 3) := by
  simp only [Selected]
  decide

theorem witness_StepRunsSelectedRow :
    (fresh none [rd none 0]).pending = rd none 0 :: [] ∧
    inputInstr defaultParams (fresh none [rd none 0]).toRegs (rd none 0) = .ok (.sampleReadMemoryRead none 0) ∧
    (fresh none []).pending = [] := ⟨rfl, rfl, rfl⟩

/-- A decoded span; a break with three writes; an unknown opcode with three writes; a reclassified span. -/
theorem witness_SpanEndRunsDecodedInstruction :
    ((span none (some 0xA9) (some 0x42) none 0 2 none none none).seen = true ∧
      (span none (some 0xA9) (some 0x42) none 0 2 none none none).done = false ∧
      decode [some 0xA9, some 0x42, none] = .ok (.ldaImm (some 0x42), [none])) ∧
    ((span none (some 0x00) none none 3 7 none none none).wcnt = 3 ∧ decode [some 0x00, none, none] = .ok (.brk, [none, none])) ∧
    ((span none none none none 3 5 none none none).wcnt = 3 ∧ decode [none, none, none] = .ok (.retireUnknown, [none, none])) ∧
    ((span none (some 0xEA) none none 3 7 none none none).ir = some 0xEA ∧
      (span none (some 0xEA) none none 3 7 none none none).wcnt = 3 ∧ (0xEA : Byte) ≠ 0x00) ∧
    Admitted 2 (span none (some 0xA9) (some 0x42) none 0 2 none none none).toRegs ∧
    (span none (some 0xA9) (some 0x42) none 0 2 none none none).lastTs = some 1 :=
  ⟨⟨rfl, rfl, rfl⟩, ⟨rfl, rfl⟩, ⟨rfl, rfl⟩, ⟨rfl, rfl, by decide⟩, ⟨rfl, fun _ h => by cases h; decide⟩, rfl⟩

/-- An input after END; indeterminate control lines; a timestamp equal to LAST_TS and one below it. -/
theorem witness_InputsOutsideContractRefused :
    ({ fresh none [.endOfCapture] with done := true }).done = true ∧
    (fetched none (some 0xA9) [.sample { mkSample none true false 1 with rw := .indeterminate }]).done = false ∧
    ({ mkSample none true false 1 with rw := .indeterminate } : Sample).rw = .indeterminate ∧
    ({ mkSample none true false 1 with sync := .indeterminate } : Sample).sync = .indeterminate ∧
    ({ fetched none (some 0xA9) [rd none 5] with lastTs := some 5 }).lastTs = some 5 ∧ (mkSample none true false 5).ts ≤ 5 ∧
    (mkSample none true false 4).ts ≤ 5 := by decide

/-- The first sample of a capture, whatever its timestamp; a sample just above LAST_TS; END. -/
theorem witness_AdmittedInputsStep :
    Admitted (mkSample none true false 0).ts (fresh none [rd none 0]).toRegs ∧
    Admitted (mkSample none true false 1).ts (fetched none (some 0xA9) [rd none 1]).toRegs ∧
    (mkSample none true false 1).rw ≠ .indeterminate ∧ (mkSample none true false 1).sync ≠ .indeterminate ∧
    (fresh none [.endOfCapture]).done = false :=
  ⟨⟨rfl, fun _ h => by cases h⟩, ⟨rfl, fun _ h => by cases h; decide⟩, by decide, by decide, rfl⟩

/-- A first fetch, and a fetch that retires. -/
theorem witness_FetchRetiresThenLoads :
    (Admitted 0 (fresh none []).toRegs ∧ (fresh none []).seen = false) ∧
    (Admitted 1 (fetched none (some 0xEA) []).toRegs ∧ (fetched none (some 0xEA) []).seen = true) :=
  ⟨⟨⟨rfl, fun _ h => by cases h⟩, rfl⟩, ⟨rfl, fun _ h => by cases h; decide⟩, rfl⟩

theorem witness_WriteCountsAndShows : Admitted 1 (fetched none (some 0x48) []).toRegs ∧
    (mkSample none false false 1).sync = .zero ∧ (mkSample none false false 1).rw = .zero :=
  ⟨⟨rfl, fun _ h => by cases h; decide⟩, rfl, rfl⟩

theorem witness_ReadAfterFetchIsOperand1 :
    (mkSample none true false 1).sync = .zero ∧ (mkSample none true false 1).rw = .one ∧ (readRegs .fetch 1 0x20).phase = .fetch ∧
    0 < (readRegs .fetch 1 0x20).rem ∧ 0 < (readRegs .fetch 2 0xAD).rem := by decide

theorem witness_ReadAfterOperand1IsOperand2 :
    (readRegs .operand1 1 0xAD).phase = .operand1 ∧ 0 < (readRegs .operand1 1 0xAD).rem ∧
    isCall defaultParams (readRegs .operand1 1 0xAD).ir = false := by decide

theorem witness_CallDummyReadFolds :
    (readRegs .operand1 1 0x20).phase = .operand1 ∧ 0 < (readRegs .operand1 1 0x20).rem ∧
    isCall defaultParams (readRegs .operand1 1 0x20).ir = true := by decide

/-- After a dummy read, after a write. -/
theorem witness_CallDeferredOperand2 :
    (readRegs .memoryRead 1 0x20).phase ≠ .fetch ∧ (readRegs .memoryRead 1 0x20).phase ≠ .operand1 ∧
    (readRegs .memoryWrite 1 0x20).phase ≠ .fetch ∧ (readRegs .memoryWrite 1 0x20).phase ≠ .operand1 ∧
    0 < (readRegs .memoryWrite 1 0x20).rem ∧ isCall defaultParams (readRegs .memoryWrite 1 0x20).ir = true := by decide

/-- REM = 0, the call included; a broken chain. -/
theorem witness_OtherReadsFold :
    (readRegs .operand1 0 0xA9).rem = 0 ∧ (readRegs .operand2 0 0x20).rem = 0 ∧ (readRegs .memoryWrite 1 0xAD).phase ≠ .fetch ∧
    (readRegs .memoryWrite 1 0xAD).phase ≠ .operand1 ∧ isCall defaultParams (readRegs .memoryWrite 1 0xAD).ir = false := by decide

/-- V3, after the write: the next sample a read, a write. -/
def broken (inp : Input) : State :=
  { fetched (some 0x0300) (some 0xAD) [inp] with
    phase := .memoryWrite, op1 := some 0x34, nops := 1, rem := 1, wcnt := 1, ncyc := 3, lastTs := some 2 }

theorem witness_BrokenCaptureStaysBroken :
    CaptureBroken (broken (rd none 3)).toRegs ∧ goesOn (broken (rd none 3)) = true ∧ goesOn (broken (wr none 3)) = true :=
  ⟨⟨by decide, by decide, by decide⟩, by decide, by decide⟩

theorem witness_WholeSpanGivesOneLine : (optable 0xEA).cls ≠ .jsr ∧ (optable 0x6C).cls ≠ .jsr := by decide

theorem witness_ThreeWritesReclassify : (0x20 : Byte) ≠ 0x00 ∧ (writes 3).wcnt = 3 := by decide

/-- The nine branches: the first and the last; spans of two and of three samples. -/
theorem witness_BranchesRetire :
    (∃ row ∈ branchRows, row.byte = 0x10) ∧ (∃ row ∈ branchRows, row.byte = 0xF0) ∧ (writes 1).ncyc = 2 ∧ (writes 1).wcnt ≠ 3 ∧
    (writes 2).ncyc = 3 ∧ (writes 2).wcnt ≠ 3 :=
  ⟨⟨_, .head _, rfl⟩, ⟨branchRows.getLast (by simp [branchRows]), List.getLast_mem _, rfl⟩, by decide⟩

/-- A row of each mode's list, with its opcode byte. -/
theorem witness_rows :
    (∃ row ∈ impRows, row.byte = 0x08) ∧ (∃ row ∈ accRows, row.byte = 0x0A) ∧ (∃ row ∈ immRows, row.byte = 0x09) ∧
    (∃ row ∈ zpRows, row.byte = 0x04) ∧ (∃ row ∈ zpxRows, row.byte = 0x15) ∧ (∃ row ∈ zpyRows, row.byte = 0x96) ∧
    (∃ row ∈ izxRows, row.byte = 0x01) ∧ (∃ row ∈ izyRows, row.byte = 0x11) ∧ (∃ row ∈ izpRows, row.byte = 0x12) ∧
    (∃ row ∈ absRows, row.byte = 0x0C) ∧ (∃ row ∈ abxRows, row.byte = 0x1D) ∧ (∃ row ∈ abyRows, row.byte = 0x19) ∧
    (∃ row ∈ zprRows, row.byte = 0x0F) :=
  ⟨⟨_, .head _, rfl⟩, ⟨_, .head _, rfl⟩, ⟨_, .head _, rfl⟩, ⟨_, .head _, rfl⟩, ⟨_, .head _, rfl⟩, ⟨_, .head _, rfl⟩,
   ⟨_, .head _, rfl⟩, ⟨_, .head _, rfl⟩, ⟨_, .head _, rfl⟩, ⟨_, .head _, rfl⟩, ⟨_, .head _, rfl⟩, ⟨_, .head _, rfl⟩,
   ⟨_, .head _, rfl⟩⟩

theorem witness_PcUnknownExactlyWhenReadUnknown :
    RunClass.int ∈ [RunClass.table .rti, .table .brk, .table .jmpind, .int] ∧
    RunClass.table .jmpabs ∈ [RunClass.table .jsr, .table .jmpabs] := by decide

/-- Modes REL, ZPR, another, and an unknown opcode. -/
theorem witness_DisplayTargetByMode :
    (optable 0xD0).mode = .rel ∧ (optable 0x0F).mode = .zpr ∧ ((optable 0xA9).mode ≠ .rel ∧ (optable 0xA9).mode ≠ .zpr) ∧
    (∀ b : Byte, (none : ByteX) = some b → (optable b).mode ≠ .rel ∧ (optable b).mode ≠ .zpr) :=
  ⟨by decide, by decide, by decide, fun _ h => by cases h⟩

/-- After END; before the first fetch; with a span in progress. -/
theorem witness_EndFlushesSpan :
    ({ fresh none [] with done := true }).done = true ∧ ((fresh none []).done = false ∧ (fresh none []).seen = false) ∧
    ((writes 0).done = false ∧ (writes 0).seen = true ∧ (writes 0).lastTs = some 0) := by decide

/-- A step that changes PC: the flush of a jump. -/
def jumping : State := span (some 0x0200) (some 0x4C) (some 0x00) (some 0x06) 0 3 none none none

theorem witness_PcChangesOnlyAtSpanEnd : step jumping = .next (after jumping) ∧ (after jumping).pc ≠ jumping.pc :=
  ⟨rfl, by decide⟩

/-- A state that meets every invariant and whose next input is a read: after the fetch of `LDA abs`. -/
def capturing : State :=
  { fetched (some 0x0300) (some 0xAD) [rd (some 0x34) 1] with
    events := [.data 0 1 (some 0xAD) (txt "AD"), .phaseEv 0 1 .fetch (txt "Fetch")] }

theorem witness_StepKeepsInvariants : Invariants defaultParams capturing.toRegs ∧ step capturing = .next (after capturing) :=
  ⟨⟨by decide, by decide, by decide, by decide, fun _ => ⟨by decide, 0, rfl, by decide⟩, by decide, by decide, by decide, by decide⟩,
   rfl⟩

theorem witness_StepKeepsRuleInvariantsLiterally :
    RuleInvariants defaultParams capturing.toRegs ∧ step capturing = .next (after capturing) :=
  ⟨⟨by decide, by decide, by decide, by decide, fun _ => ⟨by decide, 0, rfl, by decide⟩, by decide, by decide, by decide⟩, rfl⟩

theorem witness_StepKeepsEventTiling :
    Invariants defaultParams capturing.toRegs ∧ EventsTile capturing ∧ step capturing = .next (after capturing) :=
  ⟨witness_StepKeepsInvariants.1, ⟨trivial, fun _ _ _ h => (by cases h), fun _ => rfl⟩, rfl⟩

theorem witness_StepKeepsEventCounts : EventsCount capturing ∧ step capturing = .next (after capturing) :=
  ⟨⟨by decide, by decide⟩, rfl⟩

/-- Before the first instruction event, and after the line of a jump at 0x0200, the PC_RESET of its run. -/
theorem witness_StepKeepsPcHistory :
    (PcHistory (some 0x0300) capturing ∧ step capturing = .next (after capturing)) ∧
    (PcHistory (some 0x0200) (after jumping) ∧ (instrEvents (after jumping).events).length = 1 ∧
      step { after jumping with pending := [] } = .next { after jumping with pending := [] }) :=
  ⟨⟨⟨rfl, fun _ h => (by cases h), fun _ => rfl, trivial, fun _ h => (by cases h)⟩, rfl⟩,
   ⟨by decide, fun _ h => (by cases h; decide), fun h => (by revert h; decide), trivial, fun _ h => (by cases h; decide)⟩,
   by decide, rfl⟩

/-- R201: what is offered at the retire of a span, V33's jump; and for an unknown opcode (R77). -/
theorem test_notice :
    (after (span (some 0x0200) (some 0x7C) (some 0x34) (some 0x12) 0 6 (some 0x12) (some 0x78) (some 0x56))).notices =
      [{ kind := .insn, cls := .table .jmpind, ir := some 0x7C, mnemonic := txt "JMP", mode := .iax, early := false, xfer := none,
         op1 := some 0x34, op2 := some 0x12, nops := 2, wcnt := 0, ncyc := 6, nb0 := some 0x12, nb1 := some 0x78,
         nb2 := some 0x56, oldPc := some 0x0200, newPc := some 0x5678 }] ∧
    (after (span (some 0x0200) none none none 3 5 none none none)).notices.map
      (fun n => (n.cls, n.mnemonic, n.mode, n.early, n.newPc)) = [(.unknown, txt "???", .imp, false, none)] := by decide

/-- For the statements whose only hypothesis is a next state: EventsOnlyAppended, OutputsNeverRead. -/
theorem witness_step_goes_on : step jumping = .next (after jumping) ∧ step capturing = .next (after capturing) := ⟨rfl, rfl⟩

theorem witness_EmulatorHasNoEffect : genericStep defaultParams jumping = .next (after jumping) := rfl

end Sys2Proof.Tests
end

section
/-! PROOFS. The scope of the block (spec/00_scope.md): one step takes one input (R9), and an attached emulator is told of
each retire but changes nothing (R200). The second rests on an equation per operation: with EMU_ENABLE changed, it answers
the same state but for the list of notifications. -/

namespace Sys2Proof.Proofs.Scope

open Sys2Proof Sys2Proof.Machine

/-! ## The step -/

/-- A step with no input pending (R236; log 9). -/
theorem step_nil {s : State} (hp : s.pending = []) : step s = .next s := by
  cases s
  cases hp
  rfl

/-- Settles O11: with an input pending the step is `step_cons`, on the row that the input selects; with none, `step_nil`. -/
theorem stepRunsSelectedRow : Obligations.StepRunsSelectedRow := by
  unfold Obligations.StepRunsSelectedRow
  constructor
  · intro s inp rest i hp hi
    rw [step_cons hp, hi]
  · intro s hp
    exact step_nil hp

/-! ## EMU_ENABLE -/

section

variable (P : Params) (on : Bool) (s : State)

/-- A notification, or none, writes the list of notifications and nothing else. -/
theorem notify_eq_update (n : Notice) : notify P n s = { s with notices := (notify P n s).notices } := by
  unfold notify
  split <;> rfl

/-- The retire of a chosen kind and class: only `notify` reads EMU_ENABLE (R110, R201). -/
theorem finishRetire_emuEnable (k : Kind) (c : RunClass) (ir op1 op2 : ByteX) :
    ∃ ns, finishRetire { P with emuEnable := on } k c ir op1 op2 s =
      { finishRetire P k c ir op1 op2 s with notices := ns } := by
  unfold finishRetire
  rw [notify_eq_update P, notify_eq_update { P with emuEnable := on }]
  exact ⟨_, rfl⟩

/-- The retire at a fetch or at END, when a span is in progress (R91, R186). -/
theorem genericRetire_ifSeen_emuEnable (endTs : Nat) :
    ∃ ns, (if s.seen then genericRetire { P with emuEnable := on } endTs s else s) =
      { (if s.seen then genericRetire P endTs s else s) with notices := ns } := by
  split
  · exact finishRetire_emuEnable ..
  · exact ⟨s.notices, rfl⟩

/-- The step function of a sample: a FETCH retires; no other sample reads EMU_ENABLE (R91 to R97). -/
theorem genericSample_emuEnable (d : ByteX) (rw sync : Bool) (ts : Nat) :
    ∃ ns, genericSample { P with emuEnable := on } d rw sync ts s =
      { genericSample P d rw sync ts s with notices := ns } := by
  cases sync with
  | false => exact ⟨(genericSample P d rw false ts s).notices, rfl⟩
  | true =>
    obtain ⟨ns, h⟩ := genericRetire_ifSeen_emuEnable P on s ts
    refine ⟨ns, ?_⟩
    simp only [genericSample, if_true, h]
    rfl

/-- END: it retires the span in progress (R186). -/
theorem genericEnd_emuEnable :
    ∃ ns, genericEnd { P with emuEnable := on } s = { genericEnd P s with notices := ns } := by
  obtain ⟨ns, h⟩ := genericRetire_ifSeen_emuEnable P on s (flushEnd s.toRegs)
  refine ⟨ns, ?_⟩
  simp only [genericEnd, h]

/-- A step, refusals included: admission reads no parameter (R90), and what an admitted input does differs only in the
notifications. -/
theorem genericStep_emuEnable :
    ∃ ns, genericStep { P with emuEnable := on } s =
      andThen (genericStep P s) fun t => .next { t with notices := ns } := by
  unfold genericStep
  cases s.pending with
  | nil => exact ⟨s.notices, rfl⟩
  | cons inp rest =>
    dsimp only
    cases admission s.toRegs inp with
    | some r => exact ⟨s.notices, rfl⟩
    | none =>
      cases inp with
      | endOfCapture =>
        obtain ⟨ns, h⟩ := genericEnd_emuEnable P on s
        exact ⟨ns, by simp only [h, andThen]⟩
      | sample m =>
        obtain ⟨ns, h⟩ :=
          genericSample_emuEnable P on s m.d.value (decide (m.rw = .one)) (decide (m.sync = .one)) m.ts
        exact ⟨ns, by simp only [h, andThen]⟩

end

/-- Settles O60: by `genericStep_emuEnable` the two steps answer states that differ only in the notifications, which are no
register, no event and no input. -/
theorem emulatorHasNoEffect : Obligations.EmulatorHasNoEffect := by
  unfold Obligations.EmulatorHasNoEffect
  intro P on s t h
  obtain ⟨ns, hstep⟩ := genericStep_emuEnable P on s
  rw [h] at hstep
  exact ⟨{ t with notices := ns }, hstep, rfl, rfl, rfl⟩

end Sys2Proof.Proofs.Scope
end

section
/-! PROOFS. The state (spec/10_state.md): the registers at reset (R29), what every step keeps of them (R27), when PC is written
(R22), and that the outputs are no state (R31). What one step keeps goes through the cases of `InputStep`; the outputs, which
need a second run, through the row that both runs decode. -/

namespace Sys2Proof.Proofs.Registers

open Sys2Proof Sys2Proof.Machine Sys2Proof.Safety

/-! ## Reset -/

/-- Settles O1: reset writes these values (R29). -/
theorem resetLeavesEveryRegister : Obligations.ResetLeavesEveryRegister := by
  unfold Obligations.ResetLeavesEveryRegister
  intro p
  rfl

/-- The reset state meets R27 as the rule writes it: no fetch was seen, the counts are 0 and PHASE is MemoryRead. -/
theorem resetWith_ruleInvariants (p : WordX) : RuleInvariants defaultParams (State.resetWith p).toRegs where
  countsAddUp := nofun
  countWithin := nofun
  remAtMostTwo := Nat.zero_le 2
  writesWithinSpan := Nat.le_refl 0
  spanStarted := nofun
  operand2Count := nofun
  operand1Count := nofun
  fetchCounts := nofun

/-- R27 as written gives the invariants that steps keep, once nothing is to be captured before the first fetch. -/
theorem invariants_of_ruleInvariants {P : Params} {r : Regs} (h : RuleInvariants P r)
    (hb : r.seen = false → r.rem = 0 ∧ r.ir = none) : Invariants P r :=
  { h with countsAddUp := fun hs _ => h.countsAddUp hs, beforeFetch := hb }

/-- Settles O52: before the first input there is no event and no notification, and the registers are those of R29. -/
theorem resetMeetsInvariants : Obligations.ResetMeetsInvariants := by
  unfold Obligations.ResetMeetsInvariants
  intro p
  have hrule := resetWith_ruleInvariants p
  refine ⟨invariants_of_ruleInvariants hrule fun _ => ⟨rfl, rfl⟩, hrule, ?tile, ?count, ?history⟩
  case tile => exact ⟨trivial, fun h => (by cases h), fun _ => rfl⟩
  case count => exact ⟨rfl, rfl⟩
  case history => exact ⟨rfl, fun _ h => (by cases h), fun _ => rfl, trivial, fun _ h => (by cases h)⟩

/-! ## The instruction lengths that R27 (b) and (c) rest on -/

/-- Every length of MODETABLE is at most 3 (R42, R66), and so is the length 1 of X (R77). -/
theorem lenX_le_three (ir : ByteX) : lenX defaultParams ir ≤ 3 := by
  have hmode : ∀ m, (modetable m).length ≤ 3 := by
    intro m
    cases m <;> decide
  cases ir with
  | none => exact (by decide : 1 ≤ 3)
  | some b => exact hmode _

/-- The only class JSR of the table has mode ABS, so the call is three bytes long (R73, R74). -/
theorem lenX_of_isCall {ir : ByteX} (h : isCall defaultParams ir = true) : lenX defaultParams ir = 3 := by
  cases ir with
  | none => cases h
  | some b =>
    revert b
    apply forall_byte
    intro n hn
    interval_cases n <;> decide

/-! ## The cases of a step -/

/-- A step that answers a next state holds the state when no input is pending (R236), and else takes the first input, by one
of the cases of `InputStep`. -/
theorem step_next_cases {s t : State} (h : step s = .next t) :
    (s.pending = [] ∧ t = s) ∨
    ∃ inp rest u, s.pending = inp :: rest ∧ s.done = false ∧ InputStep s inp u ∧ t = { u with pending := rest } := by
  cases hp : s.pending with
  | nil =>
    rw [Scope.step_nil hp] at h
    cases h
    exact .inl ⟨rfl, rfl⟩
  | cons inp rest =>
    obtain ⟨hd, u, hu, ht⟩ := step_input_cases hp h
    exact .inr ⟨inp, rest, u, rfl, hd, hu, ht⟩

/-! ## PC -/

/-- Before the first fetch there is no span to retire (R91, R186). -/
theorem retiredIfSeen_of_not_seen {endTs : Nat} {s : State} (h : s.seen = false) : retiredIfSeen endTs s = s := by
  simp [retiredIfSeen, h]

/-- A retire that wrote another PC found a span in progress. -/
theorem seen_of_retiredIfSeen_pc_ne {endTs : Nat} {s : State} (h : (retiredIfSeen endTs s).pc ≠ s.pc) : s.seen = true := by
  by_contra hs
  rw [retiredIfSeen_of_not_seen (by simpa using hs)] at h
  exact h rfl

/-- Only FETCH and END retire; every other sample leaves PC. -/
theorem inputStep_pc_ne {s u : State} {inp : Input} (h : InputStep s inp u) (hpc : u.pc ≠ s.pc) :
    s.seen = true ∧ (inp = .endOfCapture ∨ ∃ m, inp = .sample m ∧ m.sync = .one) := by
  cases h with
  | fetch m hs => exact ⟨seen_of_retiredIfSeen_pc_ne hpc, .inr ⟨m, rfl, hs⟩⟩
  | endOfCapture => exact ⟨seen_of_retiredIfSeen_pc_ne hpc, .inl rfl⟩
  | write => exact absurd rfl hpc
  | operand1 => exact absurd rfl hpc
  | operand2 => exact absurd rfl hpc
  | callDummy => exact absurd rfl hpc
  | callOperand2 => exact absurd rfl hpc
  | memoryRead => exact absurd rfl hpc

/-- Settles O50: a step that takes no input keeps the state, and one that takes an input is one of `inputStep_pc_ne`. -/
theorem pcChangesOnlyAtSpanEnd : Obligations.PcChangesOnlyAtSpanEnd := by
  unfold Obligations.PcChangesOnlyAtSpanEnd
  intro s t hstep hpc
  obtain ⟨-, rfl⟩ | ⟨inp, rest, u, hp, -, hu, rfl⟩ := step_next_cases hstep
  · exact absurd rfl hpc
  · obtain ⟨hseen, hend⟩ := inputStep_pc_ne hu hpc
    exact ⟨hseen, inp, rest, hp, hend⟩

/-! ## What every step keeps -/

/-- The next sample of a span: its timestamp is above the last one (R90), so it is above FETCH_TS too (R27 e). -/
theorem spanStarted_next {P : Params} {r : Regs} (h : Invariants P r) {ts : Nat}
    (ho : ∀ t, r.lastTs = some t → t < ts) (hs : r.seen = true) :
    1 ≤ r.ncyc + 1 ∧ ∃ t, some ts = some t ∧ r.fetchTs ≤ t := by
  obtain ⟨-, t, hlast, hle⟩ := h.spanStarted hs
  exact ⟨Nat.le_add_left .., ts, rfl, hle.trans (ho t hlast).le⟩

section

variable {s : State} (d : ByteX) {ts : Nat}

/-- A retire keeps the invariants: they do not speak of PC. -/
theorem invariants_retiredIfSeen (endTs : Nat) (h : Invariants defaultParams s.toRegs) :
    Invariants defaultParams (retiredIfSeen endTs s).toRegs := by
  rw [retiredIfSeen_toRegs]
  exact { h with }

/-- A FETCH starts a span that meets the invariants, whatever the state was (R91). -/
theorem invariants_loadFetch (ts : Nat) (s : State) : Invariants defaultParams (loadFetch defaultParams d ts s).toRegs where
  countsAddUp := fun _ _ => Nat.zero_add _
  countWithin := fun _ => Nat.zero_le _
  remAtMostTwo := Nat.sub_le_sub_right (lenX_le_three d) 1
  writesWithinSpan := Nat.zero_le 1
  spanStarted := fun _ => ⟨Nat.le_refl 1, ts, rfl, Nat.le_refl ts⟩
  operand2Count := nofun
  operand1Count := nofun
  fetchCounts := fun _ => ⟨rfl, rfl, rfl⟩
  beforeFetch := nofun

/-- A WRITE counts once among the samples and once among the writes (R92). -/
theorem invariants_writeSample (h : Invariants defaultParams s.toRegs) (ho : ∀ t, s.lastTs = some t → t < ts) :
    Invariants defaultParams (writeSample defaultParams d ts s).toRegs :=
  { h with
    writesWithinSpan := Nat.succ_le_succ h.writesWithinSpan
    spanStarted := spanStarted_next h ho
    operand2Count := nofun
    operand1Count := nofun
    fetchCounts := nofun }

/-- A READ to MemoryRead captures no operand (R95, R97). -/
theorem invariants_readMemory (h : Invariants defaultParams s.toRegs) (ho : ∀ t, s.lastTs = some t → t < ts) :
    Invariants defaultParams (readMemory defaultParams d ts s).toRegs :=
  { h with
    writesWithinSpan := Nat.le_succ_of_le h.writesWithinSpan
    spanStarted := spanStarted_next h ho
    operand2Count := nofun
    operand1Count := nofun
    fetchCounts := nofun }

/-- A count of operands of at most 2 fits the call, which has three bytes; any other opcode has to show that it fits. -/
theorem operandCount_le {n : Nat} {ir : ByteX} (hn : n ≤ 2)
    (h : isCall defaultParams ir = false → n ≤ lenX defaultParams ir - 1) : n ≤ lenX defaultParams ir - 1 := by
  cases hc : isCall defaultParams ir with
  | false => exact h hc
  | true => rwa [lenX_of_isCall hc]

/-- The capture of operand 1 (R93): a FETCH left NOPS = 0. The call, whose counts need not add up, is long enough. -/
theorem invariants_readOperand1 (h : Invariants defaultParams s.toRegs) (ho : ∀ t, s.lastTs = some t → t < ts)
    (hp : s.phase = .fetch) (hr : 0 < s.rem) :
    Invariants defaultParams (readOperand1 defaultParams d ts s).toRegs := by
  obtain ⟨hnops, -, -⟩ := h.fetchCounts hp
  have hsum : s.seen = true → isCall defaultParams s.ir = false → 1 + (s.rem - 1) = lenX defaultParams s.ir - 1 := by
    intro hs hc
    have := h.countsAddUp hs hc
    omega
  exact { h with
    countsAddUp := hsum
    countWithin := fun hs => operandCount_le (Nat.le_succ 1) fun hc => (Nat.le_add_right ..).trans_eq (hsum hs hc)
    remAtMostTwo := (Nat.sub_le ..).trans h.remAtMostTwo
    writesWithinSpan := Nat.le_succ_of_le h.writesWithinSpan
    spanStarted := spanStarted_next h ho
    operand2Count := nofun
    operand1Count := fun _ => rfl
    fetchCounts := nofun
    beforeFetch := fun hs => absurd (h.beforeFetch hs).1 hr.ne' }

/-- The capture of operand 2: after operand 1, which left NOPS = 1 (R94), or deferred, for the call only (R96). -/
theorem invariants_readOperand2 (h : Invariants defaultParams s.toRegs) (ho : ∀ t, s.lastTs = some t → t < ts)
    (hp : isCall defaultParams s.ir = false → s.phase = .operand1) (hr : 0 < s.rem) :
    Invariants defaultParams (readOperand2 defaultParams d ts s).toRegs := by
  have hsum : s.seen = true → isCall defaultParams s.ir = false → 2 + (s.rem - 1) = lenX defaultParams s.ir - 1 := by
    intro hs hc
    have := h.operand1Count (hp hc)
    have := h.countsAddUp hs hc
    omega
  exact { h with
    countsAddUp := hsum
    countWithin := fun hs => operandCount_le (Nat.le_refl 2) fun hc => (Nat.le_add_right ..).trans_eq (hsum hs hc)
    remAtMostTwo := (Nat.sub_le ..).trans h.remAtMostTwo
    writesWithinSpan := Nat.le_succ_of_le h.writesWithinSpan
    spanStarted := spanStarted_next h ho
    operand2Count := fun _ => rfl
    operand1Count := nofun
    fetchCounts := nofun
    beforeFetch := fun hs => absurd (h.beforeFetch hs).1 hr.ne' }

end

/-- Each row that an input selects keeps the invariants. -/
theorem inputStep_invariants {s u : State} {inp : Input} (hu : InputStep s inp u) (h : Invariants defaultParams s.toRegs) :
    Invariants defaultParams u.toRegs := by
  cases hu with
  | fetch => exact invariants_loadFetch ..
  | write _ _ _ ho => exact invariants_writeSample _ h ho
  | operand1 _ _ _ ho hp hr => exact invariants_readOperand1 _ h ho hp hr
  | operand2 _ _ _ ho hp hr => exact invariants_readOperand2 _ h ho (fun _ => hp) hr
  | callDummy _ _ _ ho => exact invariants_readMemory _ h ho
  | callOperand2 _ _ _ ho _ _ hr hc => exact invariants_readOperand2 _ h ho (fun hn => by simp [hc] at hn) hr
  | memoryRead _ _ _ ho => exact invariants_readMemory _ h ho
  | endOfCapture => exact { invariants_retiredIfSeen _ h with }

/-- Settles O51: a step that takes no input keeps the state; the others by `inputStep_invariants`. -/
theorem stepKeepsInvariants : Obligations.StepKeepsInvariants := by
  unfold Obligations.StepKeepsInvariants
  intro s t h hstep
  obtain ⟨-, rfl⟩ | ⟨inp, rest, u, -, -, hu, rfl⟩ := step_next_cases hstep
  · exact h
  · exact (inputStep_invariants hu h :)

/-! ## R27 as the rule writes it -/

/-- The call fetched at 0, then a write at 1 with no operand captured; a read comes next (log 12). -/
def callThenWrite : State :=
  { State.resetWith none with
    phase := .memoryWrite, seen := true, ir := some 0x20, rem := 2, wcnt := 1, ncyc := 2, lastTs := some 1,
    pending := [.sample (mkSample none true false 2)] }

/-- A run reaches these registers: from reset, after the call's FETCH and the write. -/
theorem callThenWrite_reached :
    ∃ t, core.run 2
        { State.resetWith none with
          pending := .sample (mkSample (some 0x20) true true 0) :: .sample (mkSample none false false 1) ::
            callThenWrite.pending } = .next t ∧
      t.toRegs = callThenWrite.toRegs ∧ t.pending = callThenWrite.pending :=
  ⟨_, rfl, rfl, rfl⟩

/-- R27 holds of it: NOPS + REM = 0 + 2 = LEN - 1. -/
theorem callThenWrite_ruleInvariants : RuleInvariants defaultParams callThenWrite.toRegs where
  countsAddUp := fun _ => rfl
  countWithin := fun _ => Nat.zero_le _
  remAtMostTwo := Nat.le_refl 2
  writesWithinSpan := Nat.le_succ 1
  spanStarted := fun _ => ⟨Nat.le_succ 1, 1, rfl, Nat.zero_le 1⟩
  operand2Count := nofun
  operand1Count := nofun
  fetchCounts := nofun

/-- Refutes O53: the step from `callThenWrite` captures the deferred operand 2 (R96), so NOPS = 2 and REM = 1,
but LEN - 1 = 2. -/
theorem not_stepKeepsRuleInvariantsLiterally : ¬ Obligations.StepKeepsRuleInvariantsLiterally := by
  unfold Obligations.StepKeepsRuleInvariantsLiterally
  intro h
  have hstep : step callThenWrite =
      .next { readOperand2 defaultParams none 2 callThenWrite with pending := [] } := rfl
  have hsum : 2 + 1 = 3 - 1 := (h _ _ callThenWrite_ruleInvariants hstep).countsAddUp rfl
  exact absurd hsum (by decide)

/-! ## Outputs are no state

Two runs are compared operation by operation, from two states that agree but for their outputs. -/

/-- The state with other events, other notifications and another latched end: what is no register and no input (R31). -/
def withOutputs (es : List Event) (ns : List Notice) (k : Nat) (s : State) : State :=
  { s with events := es, notices := ns, endTs := k }

@[simp] theorem withOutputs_toRegs (es : List Event) (ns : List Notice) (k : Nat) (s : State) :
    (withOutputs es ns k s).toRegs = s.toRegs := rfl

/-- From `s` to `t` and from `s'` to `t'` the same events were appended, and `t` and `t'` have the same registers and inputs. -/
def AppendsAlike (s t s' t' : State) : Prop :=
  t'.toRegs = t.toRegs ∧ t'.pending = t.pending ∧ ∃ new, t.events = s.events ++ new ∧ t'.events = s'.events ++ new

/-- A second operation appends after the first. -/
theorem AppendsAlike.trans {s t u s' t' u' : State} (h : AppendsAlike s t s' t') (h' : AppendsAlike t u t' u') :
    AppendsAlike s u s' u' := by
  obtain ⟨-, -, new, ht, ht'⟩ := h
  obtain ⟨hregs, hpending, new', hu, hu'⟩ := h'
  exact ⟨hregs, hpending, new ++ new', by simp [hu, ht], by simp [hu', ht']⟩

/-- What a FETCH loads and shows is the same from the same registers. -/
theorem loadFetch_appendsAlike {s s' : State} (hr : s'.toRegs = s.toRegs) (hp : s'.pending = s.pending) (d : ByteX) (ts : Nat) :
    AppendsAlike s (loadFetch defaultParams d ts s) s' (loadFetch defaultParams d ts s') :=
  ⟨by simp [hr], hp, _, loadFetch_events .., loadFetch_events ..⟩

section

variable (es : List Event) (ns : List Notice) (k : Nat) {s : State}

/-- The retire at the end of a span: its event is made of the registers and of the end that it latches itself (R110, R183). -/
theorem retiredIfSeen_appendsAlike (endTs : Nat) (s : State) :
    AppendsAlike s (retiredIfSeen endTs s) (withOutputs es ns k s) (retiredIfSeen endTs (withOutputs es ns k s)) := by
  unfold retiredIfSeen
  rw [withOutputs_toRegs]
  split
  · exact ⟨rfl, rfl, _, finishRetire_events .., finishRetire_events ..⟩
  · exact ⟨rfl, rfl, [], by simp, by simp⟩

/-- Admission reads DONE and LAST_TS only (R90), so it lets both samples pass or neither. -/
theorem guardSample_appendsAlike {ts : Nat} {u v v' : State} (h : guardSample ts s (.next v) = .next u)
    (hv : AppendsAlike s v (withOutputs es ns k s) v') :
    ∃ u', guardSample ts (withOutputs es ns k s) (.next v') = .next u' ∧ AppendsAlike s u (withOutputs es ns k s) u' := by
  obtain ⟨hd, ho, rfl⟩ := guardSample_next h
  exact ⟨v', guardSample_admitted _ hd ho, hv⟩

/-- Every row that a sample selects. -/
theorem exec_decodeSample_appendsAlike {p : Phase} {rem : Nat} {call : Bool} {d : ByteX} {rw sync : Bool} {ts : Nat} {u : State}
    (h : exec (decodeSample p rem call d rw sync ts) s = .next u) :
    ∃ u', exec (decodeSample p rem call d rw sync ts) (withOutputs es ns k s) = .next u' ∧
      AppendsAlike s u (withOutputs es ns k s) u' := by
  revert h
  unfold decodeSample
  split_ifs <;> intro h
  · have hretire := retiredIfSeen_appendsAlike es ns k ts s
    rw [exec_sampleFetch, execSampleFetch_eq] at h ⊢
    exact guardSample_appendsAlike es ns k h (hretire.trans (loadFetch_appendsAlike hretire.1 hretire.2.1 d ts))
  · exact guardSample_appendsAlike es ns k h ⟨rfl, rfl, _, writeSample_events .., writeSample_events ..⟩
  · exact guardSample_appendsAlike es ns k h ⟨rfl, rfl, _, readOperand1_events .., readOperand1_events ..⟩
  · exact guardSample_appendsAlike es ns k h ⟨rfl, rfl, _, readMemory_events .., readMemory_events ..⟩
  · exact guardSample_appendsAlike es ns k h ⟨rfl, rfl, _, readOperand2_events .., readOperand2_events ..⟩
  · exact guardSample_appendsAlike es ns k h ⟨rfl, rfl, _, readOperand2_events .., readOperand2_events ..⟩
  · exact guardSample_appendsAlike es ns k h ⟨rfl, rfl, _, readMemory_events .., readMemory_events ..⟩

/-- END: the flush latches LAST_TS + 1, which is made of the registers (R186). -/
theorem execEndOfCapture_appendsAlike {u : State} (h : execEndOfCapture s = .next u) :
    ∃ u', execEndOfCapture (withOutputs es ns k s) = .next u' ∧ AppendsAlike s u (withOutputs es ns k s) u' := by
  rw [execEndOfCapture_eq] at h
  split at h
  · cases h
  · next hd =>
    cases h
    obtain ⟨hregs, hpending, hevents⟩ := retiredIfSeen_appendsAlike es ns k (flushEnd s.toRegs) s
    exact ⟨_, (execEndOfCapture_eq _).trans (if_neg hd), congrArg (fun r : Regs => { r with done := true }) hregs, hpending,
      hevents⟩

/-- Every row that an input selects. -/
theorem exec_inputInstr_appendsAlike {inp : Input} {i : Instr} {u : State}
    (hi : inputInstr defaultParams s.toRegs inp = .ok i) (h : exec i s = .next u) :
    ∃ u', exec i (withOutputs es ns k s) = .next u' ∧ AppendsAlike s u (withOutputs es ns k s) u' := by
  cases inp with
  | endOfCapture =>
    cases hi
    exact execEndOfCapture_appendsAlike es ns k h
  | sample m =>
    dsimp only [inputInstr] at hi
    split at hi
    · cases hi
      exact exec_decodeSample_appendsAlike es ns k h
    · cases hi

end

/-- Settles O56: the two steps decode the same row, since the decoder reads registers only, and the row appends alike. -/
theorem outputsNeverRead : Obligations.OutputsNeverRead := by
  unfold Obligations.OutputsNeverRead
  intro s t es ns k hstep
  obtain ⟨hp, rfl⟩ | ⟨inp, rest, i, u, hp, hi, hu, rfl⟩ := step_cases hstep
  · exact ⟨_, Scope.step_nil hp, rfl, rfl, [], by simp, by simp⟩
  · obtain ⟨u', hu', hregs, -, hevents⟩ := exec_inputInstr_appendsAlike es ns k hi hu
    have hstep' : step (withOutputs es ns k s) = .next { u' with pending := rest } := by
      rw [step_cons (s := withOutputs es ns k s) hp, withOutputs_toRegs, hi]
      exact congrArg (consume rest) hu'
    exact ⟨_, hstep', hregs, rfl, hevents⟩

end Sys2Proof.Proofs.Registers
end

section
/-! PROOFS. The tables (spec/20_memory.md): what the construction check asks of a candidate, as statements over every byte and
every mode (R42, R71, R72), and that a candidate which lacks any of it is refused with code 4 (R222). -/

namespace Sys2Proof.Proofs.Tables

open Sys2Proof Sys2Proof.Machine

/-! ## The enumerations of the check -/

theorem mem_allBytes (b : Byte) : b ∈ allBytes :=
  List.mem_map.2 ⟨b.toNat, List.mem_range.2 b.isLt, by simp⟩

theorem mem_modeAll (m : Mode) : m ∈ Mode.all := by
  cases m <;> decide

/-! ## What the check says -/

/-- The constraints between class and mode, each as an implication (R71; log 11). -/
theorem classFits_iff (d : Descriptor) :
    classFits d = true ↔
      (d.cls = .jmpind → d.mode = .ind ∨ d.mode = .iax) ∧ (d.cls = .jmpabs → d.mode = .abs) ∧
      (d.cls = .branch → d.mode = .rel) ∧ (d.cls = .rts ∨ d.cls = .seq → d.mode ≠ .rel) := by
  unfold classFits
  cases d.cls <;> simp

/-- The check on OPTABLE: every byte has a row that meets R71, and the two rows of the document stand (R72). -/
theorem opCandidateOk_iff (ops : OpCandidate) :
    opCandidateOk ops = true ↔
      (∀ b, ∃ d, ops b = some d ∧ classFits d = true) ∧
      (∃ d, ops 0xA9 = some d ∧ d.mnemonic = txt "LDA" ∧ d.mode = .imm) ∧
      (∃ d, ops 0x00 = some d ∧ d.cls = .brk) := by
  simp only [opCandidateOk, Bool.and_eq_true, and_assoc, List.all_eq_true, mem_allBytes, true_imp_iff]
  refine and_congr (forall_congr' fun b => ?_) (and_congr ?_ ?_)
  · cases ops b <;> simp
  · cases ops 0xA9 <;> simp
  · cases ops 0x00 <;> simp

/-- A row of a table that passes the check meets R71. -/
theorem classFits_of_opCandidateOk {ops : OpCandidate} {b : Byte} {d : Descriptor} (h : opCandidateOk ops = true)
    (hd : ops b = some d) : classFits d = true := by
  obtain ⟨hrows, -, -⟩ := (opCandidateOk_iff ops).1 h
  obtain ⟨d', hd', hfit⟩ := hrows b
  rwa [Option.some.inj (hd.symm.trans hd')]

/-- The check on MODETABLE: every mode has a row, of length 1, 2 or 3 (R42). -/
theorem modeCandidateOk_iff (modes : ModeCandidate) :
    modeCandidateOk modes = true ↔ ∀ m, ∃ row, modes m = some row ∧ 1 ≤ row.length ∧ row.length ≤ 3 := by
  simp only [modeCandidateOk, List.all_eq_true, mem_modeAll, true_imp_iff]
  refine forall_congr' fun m => ?_
  cases modes m <;> simp

/-- Construction refuses with code 4 what the check does not pass (R250, R222). -/
theorem construct_refused {ops : OpCandidate} {modes : ModeCandidate} (p : WordX)
    (h : ¬(opCandidateOk ops = true ∧ modeCandidateOk modes = true)) :
    construct ops modes p = .refused .tableNotTotal :=
  if_neg (by rwa [Bool.and_eq_true])

/-! ## The obligation -/

/-- Settles O2: were the candidates to pass the check, each way to be bad would contradict the part of it on that row. -/
theorem constructionRefusesBadTables : Obligations.ConstructionRefusesBadTables := by
  unfold Obligations.ConstructionRefusesBadTables
  intro ops modes p hbad
  apply construct_refused
  rintro ⟨hops, hmodes⟩
  obtain ⟨hrows, ⟨lda, hlda, hmnemonic, himm⟩, ⟨brk, hbrk, hcls⟩⟩ := (opCandidateOk_iff ops).1 hops
  have hmode := (modeCandidateOk_iff modes).1 hmodes
  rcases hbad with ⟨b, hnone⟩ | ⟨m, hnone⟩ | ⟨m, row, hrow, hlen⟩ | ⟨d, hd, hnot⟩ | ⟨d, hd, hnot⟩ | ⟨b, d, hd, hc, hind, hiax⟩ |
    ⟨b, d, hd, hc, habs⟩ | ⟨b, d, hd, hc, hrel⟩ | ⟨b, d, hd, hc, hrel⟩
  · obtain ⟨d, hd, -⟩ := hrows b
    simp [hnone] at hd
  · obtain ⟨row, hrow, -⟩ := hmode m
    simp [hnone] at hrow
  · obtain ⟨row', hrow', hlow, hhigh⟩ := hmode m
    obtain rfl : row' = row := Option.some.inj (hrow'.symm.trans hrow)
    omega
  · obtain rfl : lda = d := Option.some.inj (hlda.symm.trans hd)
    exact hnot.elim (· hmnemonic) (· himm)
  · obtain rfl : brk = d := Option.some.inj (hbrk.symm.trans hd)
    exact hnot hcls
  · obtain ⟨hjmpind, -⟩ := (classFits_iff d).1 (classFits_of_opCandidateOk hops hd)
    exact (hjmpind hc).elim hind hiax
  · obtain ⟨-, hjmpabs, -⟩ := (classFits_iff d).1 (classFits_of_opCandidateOk hops hd)
    exact habs (hjmpabs hc)
  · obtain ⟨-, -, hbranch, -⟩ := (classFits_iff d).1 (classFits_of_opCandidateOk hops hd)
    exact hrel (hbranch hc)
  · obtain ⟨-, -, -, hother⟩ := (classFits_iff d).1 (classFits_of_opCandidateOk hops hd)
    exact hother hc hrel

end Sys2Proof.Proofs.Tables
end

section
/-! PROOFS. The encoding (spec/30_encoding.md): the instruction bytes (R63, R73, R77), the data lines and the kinds of input
(R61, R62), and what the spec says of the default table (R72 to R76). The bytes are those of a span: `spanBytes` says once
which registers an instruction shows on the bus, and both directions of the round trip go through it. -/

namespace Sys2Proof.Proofs.Encoding

open Sys2Proof Sys2Proof.Machine Sys2Proof.Safety

/-! ## The instruction bytes -/

/-- The bytes of a span in bus order: the opcode byte, then as many of the two operands as its length asks for (R63, R77). -/
def spanBytes (ir o1 o2 : ByteX) : List ByteX := ir :: [o1, o2].take (lenX defaultParams ir - 1)

/-- The encoder writes the bytes of the span. -/
theorem encode_spanInstr (ir o1 o2 : ByteX) : encode (spanInstr ir o1 o2) = some (spanBytes ir o1 o2) := by
  cases ir with
  | none => rfl
  | some b =>
    revert b
    apply forall_byte
    intro n hn
    interval_cases n <;> rfl

/-- The decoder reads the span's instruction off them: it drops the operands that the row does not carry, as the row does. -/
theorem decode_spanBytes (ir o1 o2 : ByteX) (rest : List ByteX) :
    decode (spanBytes ir o1 o2 ++ rest) = .ok (spanInstr ir o1 o2, rest) := by
  cases ir with
  | none => rfl
  | some b =>
    revert b
    apply forall_byte
    intro n hn
    interval_cases n <;> rfl

/-- Every instruction with bytes is that of a span (R78): its registers are read off the bytes. -/
theorem eq_spanInstr_of_encode {i : Instr} {bytes : List ByteX} (h : encode i = some bytes) :
    ∃ ir o1 o2, i = spanInstr ir o1 o2 := by
  refine ⟨bytes.getD 0 none, bytes.getD 1 none, bytes.getD 2 none, ?_⟩
  cases i <;> cases h <;> rfl

/-- What decodes begins with the bytes of a span. -/
theorem decode_ok {bytes rest : List ByteX} {i : Instr} (h : decode bytes = .ok (i, rest)) :
    ∃ ir o1 o2, bytes = spanBytes ir o1 o2 ++ rest ∧ i = spanInstr ir o1 o2 := by
  unfold decode at h
  split at h
  · cases h
  · cases h
    exact ⟨none, none, none, rfl, rfl⟩
  · next b _ =>
    split at h
    · next hlen =>
      cases h
      exact ⟨some b, none, none, by simp [spanBytes, lenX, hlen], rfl⟩
    · next o1 _ hlen =>
      cases h
      exact ⟨some b, o1, none, by simp [spanBytes, lenX, hlen], rfl⟩
    · next o1 o2 _ hlen =>
      cases h
      exact ⟨some b, o1, o2, by simp [spanBytes, lenX, hlen], rfl⟩
    · cases h

/-- Three bytes are enough for every opcode byte. -/
theorem decode_threeBytes (ir o1 o2 : ByteX) :
    decode [ir, o1, o2] = .ok (spanInstr ir o1 o2, [o1, o2].drop (lenX defaultParams ir - 1)) := by
  rw [← decode_spanBytes, spanBytes, List.cons_append, List.take_append_drop]

/-- Settles O4: the instruction is that of a span, its bytes are the span's, and those decode back. -/
theorem decodeInvertsEncode : Obligations.DecodeInvertsEncode := by
  unfold Obligations.DecodeInvertsEncode
  intro i bytes rest h
  obtain ⟨ir, o1, o2, rfl⟩ := eq_spanInstr_of_encode h
  obtain rfl : spanBytes ir o1 o2 = bytes := Option.some.inj ((encode_spanInstr ir o1 o2).symm.trans h)
  exact decode_spanBytes ir o1 o2 rest

/-- Settles O5: by `decode_ok` and the encoder on a span; any three bytes by `decode_threeBytes`. -/
theorem encodeInvertsDecode : Obligations.EncodeInvertsDecode := by
  unfold Obligations.EncodeInvertsDecode
  constructor
  · intro bytes rest i h
    obtain ⟨ir, o1, o2, hbytes, rfl⟩ := decode_ok h
    exact ⟨spanBytes ir o1 o2, encode_spanInstr ir o1 o2, hbytes⟩
  · intro ir o1 o2
    exact ⟨_, _, decode_threeBytes ir o1 o2⟩

/-- A table word always decodes: to the row of its lowest byte, with the two bytes above it as operands (log 10). -/
theorem decodeTableWord_eq (nbits w : Nat) :
    decodeTableWord nbits w =
      some (rowInstr (BitVec.ofNat 8 (w % 2 ^ nbits)) (some (BitVec.ofNat 8 (w % 2 ^ nbits / 2 ^ 8)))
        (some (BitVec.ofNat 8 (w % 2 ^ nbits / 2 ^ 16)))) := by
  rw [decodeTableWord, tableBytes, decode_threeBytes]
  rfl

/-- Settles O6: by `decodeTableWord_eq` each word is one cell of the grid, with its operand bytes. -/
theorem tableWordsDecode : Obligations.TableWordsDecode := by
  unfold Obligations.TableWordsDecode
  simp only [decodeTableWord_eq]
  and_intros <;> rfl

/-! ## The data lines -/

@[simp] theorem bit?_ofBit (b : Bool) : (Level.ofBit b).bit? = some b := by
  cases b <;> rfl

theorem bit?_eq_none (l : Level) : l.bit? = none ↔ l = .indeterminate := by
  cases l <;> simp [Level.bit?]

/-- Settles O7: `Lines.value` is a sum exactly when every line shows a bit (R61). -/
theorem dataValueOfLines : Obligations.DataValueOfLines := by
  unfold Obligations.DataValueOfLines
  constructor
  · intro b7 b6 b5 b4 b3 b2 b1 b0
    simp [Lines.value]
  · intro l h
    simp only [← bit?_eq_none] at h
    unfold Lines.value
    split
    · simp_all
    · rfl

/-! ## The kinds of input -/

/-- A READ sample selects one of the five READ rows, and the condition of that row holds (R93 to R97). -/
theorem decodeSample_read (r : Regs) (d : ByteX) (ts : Nat) :
    decodeSample r.phase r.rem (isCall defaultParams r.ir) d true false ts ∈ readRows d ts ∧
      Selected r (decodeSample r.phase r.rem (isCall defaultParams r.ir) d true false ts) := by
  simp only [decodeSample, Bool.false_eq_true, Bool.not_true, if_false]
  split_ifs with hop1 hop2 hcall hdeferred
  · exact ⟨by simp [readRows], hop1⟩
  · exact ⟨by simp [readRows], hop2.1, hop2.2, hcall⟩
  · exact ⟨by simp [readRows], hop2.1, hop2.2, by simpa using hcall⟩
  · obtain ⟨hcall, hr⟩ := hdeferred
    exact ⟨by simp [readRows], fun hp => hop1 ⟨hp, hr⟩, fun hp => hop2 ⟨hp, hr⟩, hr, hcall⟩
  · refine ⟨by simp [readRows], ?_⟩
    rcases Nat.eq_zero_or_pos r.rem with hr | hr
    · exact .inl hr
    · exact .inr ⟨fun hp => hop1 ⟨hp, hr⟩, fun hp => hop2 ⟨hp, hr⟩, by simpa [hr] using hdeferred⟩

/-- The READ row whose condition holds is the one selected, so there is one only (R100). -/
theorem decodeSample_of_selected {r : Regs} {d : ByteX} {ts : Nat} {i : Instr} (hi : i ∈ readRows d ts) (h : Selected r i) :
    decodeSample r.phase r.rem (isCall defaultParams r.ir) d true false ts = i := by
  simp only [readRows, List.mem_cons, List.not_mem_nil, or_false] at hi
  rcases hi with rfl | rfl | rfl | rfl | rfl
  · obtain ⟨hp, hr⟩ := h
    simp [decodeSample, hp, hr]
  · obtain ⟨hp, hr, hc⟩ := h
    simp [decodeSample, hp, hr, hc]
  · obtain ⟨hp, hr, hc⟩ := h
    simp [decodeSample, hp, hr, hc]
  · obtain ⟨hf, ho, hr, hc⟩ := h
    simp [decodeSample, hf, ho, hr, hc]
  · obtain hr | ⟨hf, ho, hc⟩ := h
    · simp [decodeSample, hr]
    · simp [decodeSample, hf, ho, hc]

/-- Settles O8: FETCH and WRITE by the decoder's first two tests; READ by `decodeSample_read` and `decodeSample_of_selected`. -/
theorem sampleKindPriority : Obligations.SampleKindPriority := by
  unfold Obligations.SampleKindPriority
  refine ⟨fun _ => rfl, fun r m rw hrw => ⟨?_, ?_, ?_, ?_⟩⟩
  · intro hs
    exact inputInstr_sample defaultParams r (sync := true) hrw hs
  · rintro hs rfl
    exact inputInstr_sample defaultParams r (sync := false) hrw hs
  · rintro hs rfl i hi
    rw [inputInstr_sample defaultParams r (sync := false) hrw hs, Except.ok.injEq]
    exact ⟨fun h => h ▸ (decodeSample_read r m.d.value m.ts).2, decodeSample_of_selected hi⟩
  · rintro - -
    exact ⟨_, decodeSample_read r m.d.value m.ts⟩

/-! ## The default tables -/

/-- A range of `m * n` numbers, `n` to a row. -/
theorem map_range_mul {α : Type} (f : Nat → α) (m n : Nat) :
    (List.range (m * n)).map f = ((List.range m).map fun k => (List.range n).map fun l => f (k * n + l)).flatten := by
  induction m with
  | zero => simp
  | succ m ih => simp [Nat.succ_mul, List.range_add, List.range_succ, ih, Function.comp_def]

/-- In the order of the opcode bytes, the default table is the grid read row by row (R73). -/
theorem allBytes_map_optable : allBytes.map optable = optableGrid.flatten := by
  rw [allBytes, List.map_map, map_range_mul _ 16 16]
  rfl

/-- Opcode bytes are counted over the cells of the grid. -/
theorem countP_optable (p : Descriptor → Bool) :
    allBytes.countP (fun b => p (optable b)) = (optableGrid.map (List.countP p)).sum := by
  rw [← List.countP_flatten, ← allBytes_map_optable, List.countP_map, Function.comp_def]

/-- What holds of every cell of the grid holds of every opcode byte. -/
theorem forall_optable {p : Descriptor → Prop} (h : ∀ row ∈ optableGrid, ∀ d ∈ row, p d) (b : Byte) : p (optable b) := by
  have hmem : optable b ∈ optableGrid.flatten := allBytes_map_optable ▸ List.mem_map_of_mem (Tables.mem_allBytes b)
  obtain ⟨row, hrow, hd⟩ := List.mem_flatten.1 hmem
  exact h row hrow _ hd

theorem optable_classFits (b : Byte) : classFits (optable b) = true :=
  forall_optable (p := fun d => classFits d = true) (by decide) b

theorem optable_xfer (b : Byte) : (optable b).xfer = none :=
  forall_optable (p := fun d => d.xfer = none) (by decide) b

theorem optable_of_mem_reservedOpcodes {b : Byte} (hb : b ∈ reservedOpcodes) :
    optable b = reservedCell (optable b).mode := by
  fin_cases hb <;> rfl

theorem modetable_length_cases (m : Mode) :
    (modetable m).length = 1 ∨ (modetable m).length = 2 ∨ (modetable m).length = 3 := by
  cases m <;> decide

/-- Settles O9: the counts over the grid, the other facts cell by cell. -/
theorem defaultTableFacts : Obligations.DefaultTableFacts := by
  unfold Obligations.DefaultTableFacts
  have hlen (k : Nat) := countP_optable fun d => (modetable d.mode).length == k
  have hcls (c : Class) := countP_optable fun d => d.cls == c
  have hearly := countP_optable Descriptor.earlyWrite
  refine ⟨(hlen 1).trans rfl, (hlen 2).trans rfl, (hlen 3).trans rfl, (hcls .seq).trans rfl, (hcls .branch).trans rfl,
    (hcls .jmpind).trans rfl, hearly.trans rfl, by decide, fun b _ => optable_xfer b, rfl, rfl, rfl, rfl, by decide,
    fun b hb => ?_⟩
  rw [optable_of_mem_reservedOpcodes hb]
  exact ⟨rfl, rfl⟩

/-- Settles O3: both tables pass the check of construction (R72, R42). -/
theorem defaultTablesConstruct : Obligations.DefaultTablesConstruct := by
  unfold Obligations.DefaultTablesConstruct
  intro p
  have hops : opCandidateOk (fun b => some (optable b)) = true :=
    (Tables.opCandidateOk_iff _).2 ⟨fun b => ⟨_, rfl, optable_classFits b⟩, ⟨_, rfl, rfl, rfl⟩, ⟨_, rfl, rfl⟩⟩
  have hmodes : modeCandidateOk (fun m => some (modetable m)) = true := by
    refine (Tables.modeCandidateOk_iff _).2 fun m => ⟨_, rfl, ?_⟩
    have := modetable_length_cases m
    omega
  exact if_pos (by rw [hops, hmodes]; rfl)

/-! ## The unknown opcode -/

/-- Settles O46: RETIRE.UNKNOWN is the retire of class UNKNOWN, whose new PC is X and whose line is the template IMP filled
with `???` (R77, R119). -/
theorem unknownOpcodeRetire : Obligations.UnknownOpcodeRetire := by
  unfold Obligations.UnknownOpcodeRetire
  intro s
  exact ⟨_, rfl, finishRetire_retiresTo .insn .unknown none s.op1 s.op2 s⟩

end Sys2Proof.Proofs.Encoding
end

section
/-! PROOFS. A whole span on the bus (spec/30_encoding.md R63, spec/40_classifier.md R91 to R94, spec/44_output_format.md R183,
R186): one lemma per step of the run, the registers after the last operand, and the line that END emits. -/

namespace Sys2Proof.Proofs.Spans

open Sys2Proof Sys2Proof.Machine Sys2Proof.Safety

/-! ## Runs -/

/-- A run goes on from the state that its first step answers. -/
theorem run_succ {s t : State} (k : Nat) (h : step s = .next t) : core.run (k + 1) s = core.run k t := by
  have hcore : core.step s = .next t := h
  simp only [Host.Core.run, hcore]

/-- A run of `k + l` steps is one of `k` steps and then one of `l`. -/
theorem run_add {k : Nat} {s t : State} (l : Nat) (h : core.run k s = .next t) : core.run (k + l) s = core.run l t := by
  induction k generalizing s with
  | zero =>
    cases h
    rw [Nat.zero_add]
  | succ k ih =>
    rw [Nat.succ_add]
    cases hs : core.step s with
    | next u =>
      rw [run_succ _ hs] at h ⊢
      exact ih h
    | fault f => cases f
    | refused r => simp [Host.Core.run, hs] at h

/-! ## One step -/

/-- The lines that show a data value have that value (R61). -/
theorem value_ofValue (d : ByteX) : (Lines.ofValue d).value = d := by
  cases d with
  | none => rfl
  | some b =>
    revert b
    apply forall_byte
    intro n hn
    interval_cases n <;> rfl

/-- The order check of a sample after the last one (R90 item 3). -/
theorem lt_of_lastTs {k ts : Nat} (h : k < ts) (t : Nat) (ht : some k = some t) : t < ts :=
  Option.some.inj ht ▸ h

section

variable {s u : State} {rest : List Input} {d : ByteX} {ts : Nat}

/-- A sample with known control lines runs the row it decodes to, with the value that its lines show (R61, R62). -/
theorem step_mkSample {rw sync : Bool} (hp : s.pending = .sample (mkSample d rw sync ts) :: rest)
    (hu : exec (decodeSample s.phase s.rem (isCall defaultParams s.ir) d rw sync ts) s = .next u) :
    step s = .next { u with pending := rest } := by
  have hi := inputInstr_sample defaultParams s.toRegs (m := mkSample d rw sync ts) (rw := rw) (sync := sync) rfl rfl
  rw [step_cons hp, hi, mkSample, value_ofValue]
  exact congrArg (consume rest) hu

/-- A READ runs the READ row whose condition holds (R93 to R97). -/
theorem step_read {i : Instr} (hp : s.pending = .sample (mkSample d true false ts) :: rest) (hi : i ∈ readRows d ts)
    (hsel : Selected s.toRegs i) (hu : exec i s = .next u) : step s = .next { u with pending := rest } :=
  step_mkSample hp (by rw [Encoding.decodeSample_of_selected hi hsel, hu])

/-- END (R186). -/
theorem step_endOfCapture (hp : s.pending = .endOfCapture :: rest) (hd : s.done = false) :
    step s = .next { retiredIfSeen (flushEnd s.toRegs) s with done := true, pending := rest } := by
  have hu := execEndOfCapture_eq s
  rw [if_neg (by simp [hd])] at hu
  rw [step_cons hp]
  exact congrArg (consume rest) hu

variable (hd : s.done = false) (ho : ∀ t, s.lastTs = some t → t < ts)
include hd ho

/-- An admitted FETCH (R91). -/
theorem step_fetch {rw : Bool} (hp : s.pending = .sample (mkSample d rw true ts) :: rest) :
    step s = .next { loadFetch defaultParams d ts (retiredIfSeen ts s) with pending := rest } :=
  step_mkSample hp ((execSampleFetch_eq d rw ts s).trans (guardSample_admitted _ hd ho))

/-- An admitted READ to Operand1 (R93). -/
theorem step_operand1 (hp : s.pending = .sample (mkSample d true false ts) :: rest) (hphase : s.phase = .fetch)
    (hrem : 0 < s.rem) : step s = .next { readOperand1 defaultParams d ts s with pending := rest } :=
  step_read hp (i := .sampleReadOperand1 d ts) (by simp [readRows]) ⟨hphase, hrem⟩ (guardSample_admitted _ hd ho)

/-- An admitted READ to Operand2 of an instruction that is not the call (R94). -/
theorem step_operand2 (hp : s.pending = .sample (mkSample d true false ts) :: rest) (hphase : s.phase = .operand1)
    (hrem : 0 < s.rem) (hcall : isCall defaultParams s.ir = false) :
    step s = .next { readOperand2 defaultParams d ts s with pending := rest } :=
  step_read hp (i := .sampleReadOperand2 d ts) (by simp [readRows]) ⟨hphase, hrem, hcall⟩ (guardSample_admitted _ hd ho)

end

/-- The line of a retire that is no interrupt (R112, R183). -/
theorem instrEvents_retiredIfSeen {s : State} (endTs : Nat) (hs : s.seen = true) (hi : isInterrupt s.wcnt s.ir = false) :
    instrEvents (retiredIfSeen endTs s).events =
      instrEvents s.events ++ [instrEvent defaultParams .insn s.ir s.op1 s.op2 { s with endTs := endTs }] := by
  simp [retiredIfSeen, genericRetire, hs, hi]

/-! ## The first span after reset -/

theorem lenOf_cases (b : Byte) : lenOf defaultParams b = 1 ∨ lenOf defaultParams b = 2 ∨ lenOf defaultParams b = 3 :=
  Encoding.modetable_length_cases (optable b).mode

/-- The first span has been captured whole, with no write: the registers are those of `withSpan`, END comes next, and no
line stands yet. -/
structure SpanCaptured (p : WordX) (b : Byte) (o1 o2 : ByteX) (s : State) : Prop where
  regs : s.toRegs = ((State.resetWith p).withSpan b o1 o2).toRegs
  endNext : s.pending = [.endOfCapture]
  noLine : instrEvents s.events = []

/-- The state after the first FETCH, at timestamp 0. -/
def afterFirstFetch (p : WordX) (b : Byte) (rest : List Input) : State :=
  { loadFetch defaultParams (some b) 0 (State.resetWith p) with pending := rest }

/-- The first FETCH has no span to retire (R91). -/
theorem step_firstFetch (p : WordX) (b : Byte) (rest : List Input) :
    step { State.resetWith p with pending := .sample (mkSample (some b) true true 0) :: rest } =
      .next (afterFirstFetch p b rest) :=
  step_fetch rfl nofun rfl

/-- A fetch of any opcode byte but the call's and length - 1 reads capture its span, each read by R93 or R94. -/
theorem run_captures (p : WordX) (b : Byte) (x1 x2 : ByteX) (hcls : (optable b).cls ≠ .jsr) :
    ∃ t, core.run (lenOf defaultParams b)
        { State.resetWith p with pending :=
          (.sample (mkSample (some b) true true 0) ::
            [.sample (mkSample x1 true false 1), .sample (mkSample x2 true false 2)].take (lenOf defaultParams b - 1)) ++
          [.endOfCapture] } = .next t ∧ SpanCaptured p b x1 x2 t := by
  have hcall : isCall defaultParams (some b) = false := decide_eq_false hcls
  rcases lenOf_cases b with hlen | hlen | hlen
  · rw [hlen]
    refine ⟨_, run_succ 0 (step_firstFetch ..), ?_⟩
    exact ⟨by simp [State.withSpan, State.resetWith, afterFirstFetch, lenX, hlen], rfl, rfl⟩
  · have hrem : 0 < lenX defaultParams (some b) - 1 := by simp [lenX, hlen]
    rw [hlen]
    refine ⟨_, (run_succ 1 (step_firstFetch ..)).trans
      (run_succ 0 (step_operand1 rfl (lt_of_lastTs Nat.zero_lt_one) rfl rfl hrem)), ?_⟩
    exact ⟨by simp [State.withSpan, State.resetWith, afterFirstFetch, lenX, hlen], rfl, rfl⟩
  · have hrem : 0 < lenX defaultParams (some b) - 1 := by simp [lenX, hlen]
    have hrem' : 0 < lenX defaultParams (some b) - 1 - 1 := by simp [lenX, hlen]
    rw [hlen]
    refine ⟨_, (run_succ 2 (step_firstFetch ..)).trans
      ((run_succ 1 (step_operand1 rfl (lt_of_lastTs Nat.zero_lt_one) rfl rfl hrem)).trans
        (run_succ 0 (step_operand2 rfl (lt_of_lastTs Nat.one_lt_two) rfl rfl hrem' hcall))), ?_⟩
    exact ⟨by simp [State.withSpan, State.resetWith, afterFirstFetch, lenX, hlen], rfl, rfl⟩

/-- Settles O24: the run captures the span, and END retires it: the one line is that of the captured registers, and it ends at
LAST_TS + 1, the length. -/
theorem wholeSpanGivesOneLine : Obligations.WholeSpanGivesOneLine := by
  unfold Obligations.WholeSpanGivesOneLine
  intro p b x1 x2 hcls
  obtain ⟨t, hrun, hregs, hend, hnone⟩ := run_captures p b x1 x2 hcls
  have hflush := step_endOfCapture hend (congrArg Regs.done hregs)
  have hline := instrEvents_retiredIfSeen (flushEnd t.toRegs) (congrArg Regs.seen hregs) (by rw [hregs]; rfl)
  refine ⟨_, (run_add 1 hrun).trans (run_succ 0 hflush), _, by rw [hline, hnone]; rfl, ?_⟩
  rw [hregs]
  have hstop : 0 + (lenOf defaultParams b - 1) + 1 = lenOf defaultParams b := by
    have := lenOf_cases b
    omega
  exact ⟨rfl, hstop, rfl, rfl, rfl, rfl⟩

end Sys2Proof.Proofs.Spans
end

section
/-! PROOFS. The bus cycle classifier (spec/40_classifier.md). The machine steps row by row; `step_eq_genericStep` says that it is
the one step function of section 6, so admission (R90, R225) and totality (R100) are read off that function. Each kind of
sample (R91 to R97) is the row that `inputInstr` selects and the named update that its row answers. -/

namespace Sys2Proof.Proofs.Classifier

open Sys2Proof Sys2Proof.Machine Sys2Proof.Safety

/-! ## The rows and the step function -/

/-- A sample with an indeterminate control line selects no row (R90 item 2). -/
theorem inputInstr_indeterminate (P : Params) (r : Regs) {m : Sample} (h : m.rw = .indeterminate ∨ m.sync = .indeterminate) :
    inputInstr P r (.sample m) = .error (if r.done then .afterEnd else .controlIndeterminate) := by
  simp only [← Encoding.bit?_eq_none] at h
  dsimp only [inputInstr]
  split
  · simp_all
  · rfl

theorem ofBit_ne_indeterminate (b : Bool) : Level.ofBit b ≠ .indeterminate := by
  cases b <;> decide

theorem ofBit_eq_one (b : Bool) : decide (Level.ofBit b = .one) = b := by
  cases b <;> rfl

section

variable (s : State)

/-- The row that an admitted sample selects does what section 6 writes for it: the branches there are those of the decoder. -/
theorem exec_decodeSample (d : ByteX) (rw sync : Bool) (ts : Nat) :
    exec (decodeSample s.phase s.rem (isCall defaultParams s.ir) d rw sync ts) s =
      guardSample ts s (.next (genericSample defaultParams d rw sync ts s)) := by
  cases sync with
  | true => exact execSampleFetch_eq d rw ts s
  | false =>
    cases rw with
    | false => rfl
    | true =>
      simp only [decodeSample, genericSample, Bool.false_eq_true, Bool.not_true, if_false]
      split_ifs <;> rfl

/-- With known control lines the guard of the sample rows is the admission of the step function (R90, R225). -/
theorem guardSample_eq_admission {m : Sample} {rw sync : Bool} (hrw : m.rw = .ofBit rw) (hsync : m.sync = .ofBit sync)
    (k : Result) :
    guardSample m.ts s k = ((admission s.toRegs (.sample m)).map Host.Outcome.refused).getD k := by
  simp only [guardSample, admission, hrw, hsync, ofBit_ne_indeterminate, or_self, if_false]
  split_ifs <;> rfl

/-- Every input selects a row that answers what the step function does with that input (R90, R110, R186). -/
theorem step_eq_genericStep : step s = genericStep defaultParams s := by
  cases hp : s.pending with
  | nil => rw [Scope.step_nil hp, genericStep, hp]
  | cons inp rest =>
    rw [step_cons hp, genericStep, hp]
    cases inp with
    | endOfCapture =>
      simp only [inputInstr, exec_endOfCapture, execEndOfCapture_eq, admission]
      split_ifs <;> rfl
    | sample m =>
      by_cases hlines : m.rw = .indeterminate ∨ m.sync = .indeterminate
      · simp only [inputInstr_indeterminate _ _ hlines, admission, hlines, if_true]
        split_ifs <;> rfl
      · obtain ⟨rw, hrw⟩ := (Level.eq_ofBit m.rw).resolve_left fun h => hlines (.inl h)
        obtain ⟨sync, hsync⟩ := (Level.eq_ofBit m.sync).resolve_left fun h => hlines (.inr h)
        simp only [inputInstr_sample _ _ hrw hsync, exec_decodeSample, guardSample_eq_admission s hrw hsync, hrw, hsync,
          ofBit_eq_one]
        cases admission s.toRegs (.sample m) <;> rfl

end

/-- Settles O54: `step_eq_genericStep`. -/
theorem stepIsFullStepFunction : Obligations.StepIsFullStepFunction := by
  unfold Obligations.StepIsFullStepFunction
  exact step_eq_genericStep

/-! ## Admission -/

section

variable {s : State} {inp : Input} {rest : List Input}

/-- An input that is not admitted is refused, in any state (R90). -/
theorem step_refused {r : Refusal} (hp : s.pending = inp :: rest) (h : admission s.toRegs inp = some r) :
    step s = .refused r := by
  rw [step_eq_genericStep, genericStep, hp]
  simp only [h]

/-- An admitted input steps, in any state (R100). -/
theorem step_sample {m : Sample} (hp : s.pending = .sample m :: rest) (h : admission s.toRegs (.sample m) = none) :
    step s = .next { genericSample defaultParams m.d.value (decide (m.rw = .one)) (decide (m.sync = .one)) m.ts s with
      pending := rest } := by
  rw [step_eq_genericStep, genericStep, hp]
  simp only [h]

theorem admission_of_done (h : s.done = true) (inp : Input) : admission s.toRegs inp = some .afterEnd := by
  cases inp <;> simp [admission, h]

theorem admission_of_indeterminate {m : Sample} (hd : s.done = false) (h : m.rw = .indeterminate ∨ m.sync = .indeterminate) :
    admission s.toRegs (.sample m) = some .controlIndeterminate := by
  simp [admission, hd, h]

/-- With DONE = 0 and known control lines, admission is the order of the timestamps (R90 item 3). -/
theorem admission_of_lines {m : Sample} (hd : s.done = false) (hrw : m.rw ≠ .indeterminate) (hsync : m.sync ≠ .indeterminate) :
    admission s.toRegs (.sample m) = if inOrder s.lastTs m.ts then none else some .timestampOrder := by
  simp [admission, hd, hrw, hsync]

theorem inOrder_iff (lastTs : Option Nat) (ts : Nat) : inOrder lastTs ts = true ↔ ∀ t, lastTs = some t → t < ts := by
  cases lastTs <;> simp [inOrder]

end

/-- Settles O13: the three refusals of `admission`, in its order. -/
theorem inputsOutsideContractRefused : Obligations.InputsOutsideContractRefused := by
  unfold Obligations.InputsOutsideContractRefused
  refine fun s rest => ⟨fun inp hp hd => ?_, fun m hp hd hlines => ?_, fun m t hp hd hrw hsync hlast hle => ?_⟩
  · exact step_refused hp (admission_of_done hd inp)
  · exact step_refused hp (admission_of_indeterminate hd hlines)
  · have horder : inOrder s.lastTs m.ts ≠ true := fun h => ((inOrder_iff ..).1 h t hlast).not_ge hle
    exact step_refused hp (by rw [admission_of_lines hd hrw hsync, if_neg horder])

/-- Settles O14: an admitted sample steps by `step_sample`, END by `step_endOfCapture`. -/
theorem admittedInputsStep : Obligations.AdmittedInputsStep := by
  unfold Obligations.AdmittedInputsStep
  refine fun s rest => ⟨fun m hp ⟨hd, ho⟩ hrw hsync => ?_, fun hp hd => ⟨_, Spans.step_endOfCapture hp hd, rfl, rfl⟩⟩
  have hadm : admission s.toRegs (.sample m) = none := by
    rw [admission_of_lines hd hrw hsync, if_pos ((inOrder_iff ..).2 ho)]
  exact ⟨_, step_sample hp hadm, rfl, rfl⟩

/-! ## The end of a span -/

/-- The row a span is retired as is well formed: RETIRE.INT is chosen only for an opcode byte other than 0x00 (R112). -/
theorem wellFormed_retiring (r : Regs) : WellFormed (retiring r) := by
  have hrow (b : Byte) : WellFormed (rowInstr b r.op1 r.op2) := by
    revert b
    apply forall_byte
    intro n hn
    interval_cases n <;> rfl
  unfold retiring
  cases r.ir with
  | none => rfl
  | some b =>
    dsimp only
    split_ifs with hint
    · simp only [isInterrupt, Bool.and_eq_true] at hint
      exact hint.2
    · exact hrow b

/-- The decoded instruction of a span that is no interrupt is the row that the span is retired as (R110, R113). -/
theorem retiring_of_decode {r : Regs} {i : Instr} {rest : List ByteX} (h : decode [r.ir, r.op1, r.op2] = .ok (i, rest))
    (hint : isInterrupt r.wcnt r.ir = false) : retiring r = i := by
  rw [Encoding.decode_threeBytes] at h
  cases h
  unfold retiring spanInstr
  cases hir : r.ir with
  | none => rfl
  | some b =>
    rw [hir] at hint
    simp [hint]

/-- A known opcode byte other than 0x00 with three writes is retired as RETIRE.INT (R112). -/
theorem retiring_of_interrupt {r : Regs} {b : Byte} (hir : r.ir = some b) (hw : r.wcnt = 3) (hb : b ≠ 0x00) :
    retiring r = .retireInt b r.op1 r.op2 := by
  have hint : isInterrupt r.wcnt (some b) = true := by simpa [isInterrupt, hw] using hb
  simp [retiring, hir, hint]

/-- Without three writes, for 0x00 and for X the interrupt test fails (R112). -/
theorem isInterrupt_of_not {wcnt : Nat} {ir : ByteX} (h : wcnt ≠ 3 ∨ ir = some 0x00 ∨ ir = none) :
    isInterrupt wcnt ir = false := by
  cases ir with
  | none => rfl
  | some b => exact isInterrupt_eq_false (by simpa using h)

/-- Settles O12: in both cases `i` is the row that the span is retired as, which FETCH and END run by `retireSpan_exec`. -/
theorem spanEndRunsDecodedInstruction : Obligations.SpanEndRunsDecodedInstruction := by
  unfold Obligations.SpanEndRunsDecodedInstruction
  intro s i rest hseen hdone hi
  obtain rfl : retiring s.toRegs = i := by
    rcases hi with ⟨hdecode, hnot⟩ | ⟨b, hir, hw, hb, rfl⟩
    · exact retiring_of_decode hdecode (isInterrupt_of_not hnot)
    · exact retiring_of_interrupt hir hw hb
  have hretire (endTs : Nat) : retireIfSeen endTs s = exec (retiring s.toRegs) { s with endTs := endTs } :=
    (if_pos hseen).trans (retireSpan_exec endTs s)
  refine ⟨wellFormed_retiring _, fun d rw ts hadm => ?_, fun last hlast => ?_⟩
  · obtain ⟨hd, ho⟩ := hadm
    rw [exec_sampleFetch, execSampleFetch, guardSample_admitted _ hd ho, hretire]
  · have hflush : flushEnd s.toRegs = last + 1 := by simp [flushEnd, hlast]
    rw [exec_endOfCapture, execEndOfCapture, hflush, hretire, if_neg (by simp [hdone])]

/-- Settles O15: the retire is `retiredIfSeen`, which writes PC only; then `loadFetch`. -/
theorem fetchRetiresThenLoads : Obligations.FetchRetiresThenLoads := by
  unfold Obligations.FetchRetiresThenLoads
  refine ⟨fun r m rw hsync hrw => inputInstr_sample defaultParams r (sync := true) hrw hsync, fun d rw ts s hadm => ?_⟩
  obtain ⟨hd, ho⟩ := hadm
  have hexec : exec (.sampleFetch d rw ts) s = .next (loadFetch defaultParams d ts (retiredIfSeen ts s)) :=
    (execSampleFetch_eq d rw ts s).trans (guardSample_admitted _ hd ho)
  refine ⟨_, _, hexec, Registers.retiredIfSeen_of_not_seen, fun hseen => ⟨?_, retiredIfSeen_toRegs ts s⟩, rfl,
    loadFetch_events .., rfl, rfl, rfl⟩
  rw [← retireSpan_exec, ← retireIfSeen_eq]
  exact (if_pos hseen).symm

/-! ## WRITE and READ -/

/-- A READ selects the READ row whose condition holds (R93 to R97). -/
theorem inputInstr_read {r : Regs} {m : Sample} {i : Instr} (hsync : m.sync = .zero) (hrw : m.rw = .one)
    (hi : i ∈ readRows m.d.value m.ts) (hsel : Selected r i) : inputInstr defaultParams r (.sample m) = .ok i := by
  rw [inputInstr_sample defaultParams r (rw := true) (sync := false) hrw hsync, Encoding.decodeSample_of_selected hi hsel]

/-- Settles O16: the decoder's second test, and `writeSample`. -/
theorem writeCountsAndShows : Obligations.WriteCountsAndShows := by
  unfold Obligations.WriteCountsAndShows
  refine ⟨fun r m hsync hrw => inputInstr_sample defaultParams r (rw := false) (sync := false) hrw hsync, fun d ts s hadm => ?_⟩
  obtain ⟨hd, ho⟩ := hadm
  exact ⟨_, guardSample_admitted _ hd ho, rfl, writeSample_events .., rfl, rfl, rfl⟩

/-- Settles O17: the row of R93, and `readOperand1`. -/
theorem readAfterFetchIsOperand1 : Obligations.ReadAfterFetchIsOperand1 := by
  unfold Obligations.ReadAfterFetchIsOperand1
  constructor
  · intro r m hsync hrw hphase hrem
    exact inputInstr_read hsync hrw (by simp [readRows]) ⟨hphase, hrem⟩
  · intro d ts s ⟨hd, ho⟩
    exact ⟨_, guardSample_admitted _ hd ho, rfl, readOperand1_events .., rfl, rfl, rfl⟩

/-- What the rows of R94 and R96 do when admitted: both capture operand 2. -/
theorem readOperand2_of_admitted {d : ByteX} {ts : Nat} {s : State} (hadm : Admitted ts s.toRegs) :
    ∃ t, guardSample ts s (.next (readOperand2 defaultParams d ts s)) = .next t ∧
      t.toRegs = { s.toRegs with phase := .operand2, op2 := d, nops := 2, rem := s.rem - 1, ncyc := s.ncyc + 1,
                                 lastTs := some ts } ∧
      ShowsSample s t d ts .operand2 "Operand2" := by
  obtain ⟨hd, ho⟩ := hadm
  exact ⟨_, guardSample_admitted _ hd ho, rfl, readOperand2_events .., rfl, rfl, rfl⟩

/-- What the rows of R95 and R97 do when admitted: both fold. -/
theorem readMemory_of_admitted {d : ByteX} {ts : Nat} {s : State} (hadm : Admitted ts s.toRegs) :
    ∃ t, guardSample ts s (.next (readMemory defaultParams d ts s)) = .next t ∧
      t.toRegs = { s.toRegs with phase := .memoryRead, nb0 := s.nb1, nb1 := s.nb2, nb2 := d, ncyc := s.ncyc + 1,
                                 lastTs := some ts } ∧
      ShowsSample s t d ts .memoryRead "MemoryRead" := by
  obtain ⟨hd, ho⟩ := hadm
  exact ⟨_, guardSample_admitted _ hd ho, rfl, readMemory_events .., rfl, rfl, rfl⟩

/-- Settles O18: the row of R94, and `readOperand2`. -/
theorem readAfterOperand1IsOperand2 : Obligations.ReadAfterOperand1IsOperand2 := by
  unfold Obligations.ReadAfterOperand1IsOperand2
  constructor
  · intro r m hsync hrw hphase hrem hcall
    exact inputInstr_read hsync hrw (by simp [readRows]) ⟨hphase, hrem, hcall⟩
  · exact fun d ts s => readOperand2_of_admitted

/-- Settles O19: the row of R95, and `readMemory`. -/
theorem callDummyReadFolds : Obligations.CallDummyReadFolds := by
  unfold Obligations.CallDummyReadFolds
  constructor
  · intro r m hsync hrw hphase hrem hcall
    exact inputInstr_read hsync hrw (by simp [readRows]) ⟨hphase, hrem, hcall⟩
  · exact fun d ts s => readMemory_of_admitted

/-- Settles O20: the row of R96, and `readOperand2`. -/
theorem callDeferredOperand2 : Obligations.CallDeferredOperand2 := by
  unfold Obligations.CallDeferredOperand2
  constructor
  · intro r m hsync hrw hfetch hoperand1 hrem hcall
    exact inputInstr_read hsync hrw (by simp [readRows]) ⟨hfetch, hoperand1, hrem, hcall⟩
  · exact fun d ts s => readOperand2_of_admitted

/-- Settles O21: the row of R97, and `readMemory`. -/
theorem otherReadsFold : Obligations.OtherReadsFold := by
  unfold Obligations.OtherReadsFold
  constructor
  · intro r m hsync hrw hother
    exact inputInstr_read hsync hrw (by simp [readRows]) hother
  · exact fun d ts s => readMemory_of_admitted

/-- Settles O22: outside the chain only the rows of R92 and R97 can be selected, and neither captures an operand. -/
theorem brokenCaptureStaysBroken : Obligations.BrokenCaptureStaysBroken := by
  unfold Obligations.BrokenCaptureStaysBroken
  intro s t m rest hp hsync hbroken hstep
  obtain ⟨hcall, hfetch, hoperand1⟩ := hbroken
  obtain ⟨-, u, hu, rfl⟩ := step_input_cases hp hstep
  cases hu with
  | fetch _ hs => simp [hsync] at hs
  | write => exact ⟨⟨hcall, nofun, nofun⟩, rfl, rfl, rfl, rfl⟩
  | operand1 _ _ _ _ hphase => exact absurd hphase hfetch
  | operand2 _ _ _ _ hphase => exact absurd hphase hoperand1
  | callDummy _ _ _ _ hphase => exact absurd hphase hoperand1
  | callOperand2 _ _ _ _ _ _ _ hc => simp [hcall] at hc
  | memoryRead => exact ⟨⟨hcall, nofun, nofun⟩, rfl, rfl, rfl, rfl⟩

/-! ## The counts of events -/

/-- A retire that finds a span in progress emits its instruction event, so afterwards no span is without its event: the counts
agree as they do after END (R187 item 2). -/
theorem eventsCount_retiredIfSeen {s : State} (endTs : Nat) (hd : s.done = false) (h : EventsCount s) :
    EventsCount { retiredIfSeen endTs s with done := true } := by
  obtain ⟨hdata, hinstr⟩ := h
  cases hs : s.seen with
  | false =>
    rw [Registers.retiredIfSeen_of_not_seen hs]
    exact ⟨hdata, by simpa [hs] using hinstr⟩
  | true =>
    obtain ⟨e, he, -⟩ := genericRetire_events defaultParams endTs s
    have hevents : (retiredIfSeen endTs s).events = s.events ++ [.instr e] := by rw [retiredIfSeen, if_pos hs, he]
    constructor
    · simpa [hevents, Event.isData, Event.isPhase] using hdata
    · simpa [hevents, Event.isFetch, hs, hd] using hinstr

/-- A FETCH starts a span, whose instruction event is still to come. -/
theorem eventsCount_loadFetch {s : State} (d : ByteX) (ts : Nat) (hd : s.done = false)
    (h : EventsCount { s with done := true }) : EventsCount (loadFetch defaultParams d ts s) := by
  obtain ⟨hdata, hinstr⟩ := h
  constructor
  · simpa [List.countP_cons, Event.isData, Event.isPhase] using hdata
  · simpa [Event.isFetch, hd] using hinstr

/-- A sample that is no FETCH adds one Data and one PhaseEv event, of another phase, and starts and ends no span. -/
theorem eventsCount_of_sample {s u : State} {d : ByteX} {ts : Nat} {p : Phase} (h : EventsCount s) (hseen : u.seen = s.seen)
    (hdone : u.done = s.done)
    (he : u.events = s.events ++ [.data ts (ts + 1) d (hex2 defaultParams d), .phaseEv ts (ts + 1) p (phaseName p)])
    (hp : p ≠ .fetch) :
    EventsCount u := by
  obtain ⟨hdata, hinstr⟩ := h
  constructor
  · simpa [he, List.countP_cons, Event.isData, Event.isPhase] using hdata
  · simpa [he, Event.isFetch, hp, hseen, hdone] using hinstr

/-- Each row that an input selects keeps the counts. -/
theorem inputStep_eventsCount {s u : State} {inp : Input} (hu : InputStep s inp u) (hd : s.done = false) (h : EventsCount s) :
    EventsCount u := by
  cases hu with
  | fetch m => exact eventsCount_loadFetch _ _ (by simp [hd]) (eventsCount_retiredIfSeen _ hd h)
  | write => exact eventsCount_of_sample h rfl rfl (writeSample_events ..) nofun
  | operand1 => exact eventsCount_of_sample h rfl rfl (readOperand1_events ..) nofun
  | operand2 => exact eventsCount_of_sample h rfl rfl (readOperand2_events ..) nofun
  | callDummy => exact eventsCount_of_sample h rfl rfl (readMemory_events ..) nofun
  | callOperand2 => exact eventsCount_of_sample h rfl rfl (readOperand2_events ..) nofun
  | memoryRead => exact eventsCount_of_sample h rfl rfl (readMemory_events ..) nofun
  | endOfCapture => exact eventsCount_retiredIfSeen _ hd h

/-- Settles O58: a step that takes no input keeps the state; the others by `inputStep_eventsCount`. -/
theorem stepKeepsEventCounts : Obligations.StepKeepsEventCounts := by
  unfold Obligations.StepKeepsEventCounts
  intro s t h hstep
  obtain ⟨-, rfl⟩ | ⟨inp, rest, u, -, hd, hu, rfl⟩ := Registers.step_next_cases hstep
  · exact h
  · obtain ⟨hdata, hinstr⟩ := inputStep_eventsCount hu hd h
    exact ⟨hdata, hinstr⟩

/-! ## The call on the bus -/

section

variable {s : State} {rest : List Input} {d : ByteX} {ts : Nat} (hd : s.done = false) (ho : ∀ t, s.lastTs = some t → t < ts)
include hd ho

/-- An admitted WRITE (R92). -/
theorem step_write (hp : s.pending = .sample (mkSample d false false ts) :: rest) :
    step s = .next { writeSample defaultParams d ts s with pending := rest } :=
  Spans.step_mkSample hp (guardSample_admitted _ hd ho)

/-- An admitted dummy READ of the call (R95). -/
theorem step_callDummy (hp : s.pending = .sample (mkSample d true false ts) :: rest) (hphase : s.phase = .operand1)
    (hrem : 0 < s.rem) (hcall : isCall defaultParams s.ir = true) :
    step s = .next { readMemory defaultParams d ts s with pending := rest } :=
  Spans.step_read hp (i := .sampleReadCallDummy d ts) (by simp [readRows]) ⟨hphase, hrem, hcall⟩ (guardSample_admitted _ hd ho)

/-- An admitted READ of the call's second operand, deferred until after its writes (R96). -/
theorem step_callOperand2 (hp : s.pending = .sample (mkSample d true false ts) :: rest) (hphase : s.phase = .memoryWrite)
    (hrem : 0 < s.rem) (hcall : isCall defaultParams s.ir = true) :
    step s = .next { readOperand2 defaultParams d ts s with pending := rest } :=
  Spans.step_read hp (i := .sampleReadCallOperand2 d ts) (by simp [readRows])
    ⟨by simp [hphase], by simp [hphase], hrem, hcall⟩ (guardSample_admitted _ hd ho)

end

/-- The phase that an event shows, if it is a phase event. -/
def shownPhase : Event → Option Phase
  | .phaseEv _ _ p _ => some p
  | _ => none

/-- The call's bus shape has been captured: END comes next, to retire a call with these operands and two writes. -/
structure CallCaptured (o1 o2 : Byte) (s : State) : Prop where
  endNext : s.pending = [.endOfCapture]
  notDone : s.done = false
  seen : s.seen = true
  ir : s.ir = some 0x20
  op1 : s.op1 = some o1
  op2 : s.op2 = some o2
  writes : s.wcnt = 2
  phases : s.events.filterMap shownPhase = [.fetch, .operand1, .memoryRead, .memoryWrite, .memoryWrite, .operand2]

/-- The six samples of the call, each by the step of its kind (R91 to R96). -/
theorem run_callShape (p : WordX) (o1 o2 : Byte) (dummy w1 w2 : ByteX) :
    ∃ t, core.run 6
        { State.resetWith p with pending :=
          [.sample (mkSample (some 0x20) true true 0), .sample (mkSample (some o1) true false 1),
           .sample (mkSample dummy true false 2), .sample (mkSample w1 false false 3), .sample (mkSample w2 false false 4),
           .sample (mkSample (some o2) true false 5), .endOfCapture] } = .next t ∧
      CallCaptured o1 o2 t := by
  refine ⟨_, (Spans.run_succ 5 (Spans.step_firstFetch ..)).trans <|
    (Spans.run_succ 4 (Spans.step_operand1 rfl (Spans.lt_of_lastTs Nat.zero_lt_one) rfl rfl Nat.zero_lt_two)).trans <|
    (Spans.run_succ 3 (step_callDummy rfl (Spans.lt_of_lastTs (Nat.lt_add_one 1)) rfl rfl Nat.zero_lt_one rfl)).trans <|
    (Spans.run_succ 2 (step_write rfl (Spans.lt_of_lastTs (Nat.lt_add_one 2)) rfl)).trans <|
    (Spans.run_succ 1 (step_write rfl (Spans.lt_of_lastTs (Nat.lt_add_one 3)) rfl)).trans <|
    Spans.run_succ 0 (step_callOperand2 rfl (Spans.lt_of_lastTs (Nat.lt_add_one 4)) rfl rfl Nat.zero_lt_one rfl), ?_⟩
  exact ⟨rfl, rfl, rfl, rfl, rfl, rfl, rfl, rfl⟩

/-- The retire of a call without three writes: PC is the operand pair, high byte second (R115). -/
theorem genericRetire_call_pc {s : State} {o1 o2 : Byte} (endTs : Nat) (hir : s.ir = some 0x20) (h1 : s.op1 = some o1)
    (h2 : s.op2 = some o2) (hw : s.wcnt ≠ 3) : (genericRetire defaultParams endTs s).pc = some (o2 ++ o1) := by
  have hint : isInterrupt s.wcnt s.ir = false := hir ▸ isInterrupt_eq_false (.inl hw)
  have hcls : classX defaultParams s.ir = .table .jsr := by rw [hir]; rfl
  simp [genericRetire, hint, hcls, newPc, h1, h2, addr16, map2X, joinBytes]

/-- The event of a retire shows no phase. -/
theorem genericRetire_phases (P : Params) (endTs : Nat) (s : State) :
    (genericRetire P endTs s).events.filterMap shownPhase = s.events.filterMap shownPhase := by
  obtain ⟨e, he, -⟩ := genericRetire_events P endTs s
  simp [he, shownPhase]

/-- Settles O23: the samples by `run_callShape`; END retires the call, which shows no phase. -/
theorem callShapeClassified : Obligations.CallShapeClassified := by
  unfold Obligations.CallShapeClassified
  intro p o1 o2 dummy w1 w2
  obtain ⟨t, hrun, hcaptured⟩ := run_callShape p o1 o2 dummy w1 w2
  have hretire : retiredIfSeen (flushEnd t.toRegs) t = genericRetire defaultParams (flushEnd t.toRegs) t :=
    if_pos hcaptured.seen
  have hflush := Spans.step_endOfCapture hcaptured.endNext hcaptured.notDone
  rw [hretire] at hflush
  exact ⟨_, (Spans.run_add 1 hrun).trans (Spans.run_succ 0 hflush),
    genericRetire_call_pc _ hcaptured.ir hcaptured.op1 hcaptured.op2 (by simp [hcaptured.writes]),
    (genericRetire_phases ..).trans hcaptured.phases⟩

end Sys2Proof.Proofs.Classifier
end

section
/-! PROOFS. The retire of a span and the program counter (spec/41_retire_pc.md, spec/43_control_flow.md): the history of PC
that every step keeps (R111, R187 item 5), the new PC by class (R113 to R120), the display target (R121), the interrupt test
(R112), and the retire of each control-flow class, which `retireRow_retiresTo_line` assembles from the class, the new PC and
the line of the row. -/

namespace Sys2Proof.Proofs.Retire

open Sys2Proof Sys2Proof.Machine Sys2Proof.Safety

/-! ## The history of PC -/

section

variable {p : WordX} {s t : State}

/-- The history speaks of PC, of the instruction events and of the notifications only. -/
theorem pcHistory_congr (h : PcHistory p s) (hpc : t.pc = s.pc) (he : instrEvents t.events = instrEvents s.events)
    (hn : t.notices = s.notices) : PcHistory p t where
  shown := by rw [he, hn, h.shown]
  first := by rw [he]; exact h.first
  untouched := by rw [he, hpc]; exact h.untouched
  linked := by rw [hn]; exact h.linked
  last := by rw [hn, hpc]; exact h.last

/-- With an event appended that shows the PC in the register, the first one still shows PC_RESET: before any event, that is
what the register holds. -/
theorem pcHistory_first_append (h : PcHistory p s) {e f : InstrEvent} (he : e.pc = s.pc)
    (hf : (instrEvents s.events ++ [e]).head? = some f) : f.pc = p := by
  cases hes : instrEvents s.events with
  | nil =>
    obtain rfl : e = f := by simpa [hes] using hf
    exact he.trans (h.untouched hes)
  | cons g gs =>
    obtain rfl : g = f := by simpa [hes] using hf
    exact h.first g (by simp [hes])

/-- A retire extends the history: its event and its notification show the PC in the register, which the retire before it
wrote, and the notification tells the PC it writes (R111, R201). -/
theorem pcHistory_genericRetire (endTs : Nat) (h : PcHistory p s) : PcHistory p (genericRetire defaultParams endTs s) := by
  obtain ⟨e, hevents, -, -, hepc⟩ := genericRetire_events defaultParams endTs s
  obtain ⟨n, hnotices, hold, hnew⟩ := genericRetire_notices defaultParams endTs s rfl
  have hes : instrEvents (genericRetire defaultParams endTs s).events = instrEvents s.events ++ [e] := by simp [hevents]
  constructor
  case shown => simp [hes, hnotices, h.shown, hepc, hold]
  case first =>
    intro f hf
    exact pcHistory_first_append h hepc (hes ▸ hf)
  case untouched => simp [hes]
  case linked =>
    rw [hnotices]
    exact pcLinked_append_one h.linked fun l hl => (h.last l hl).trans hold.symm
  case last =>
    intro l hl
    obtain rfl : n = l := by simpa [hnotices] using hl
    exact hnew

/-- The retire at a fetch or at END, when a span is in progress (R91, R186). -/
theorem pcHistory_retiredIfSeen (endTs : Nat) (h : PcHistory p s) : PcHistory p (retiredIfSeen endTs s) := by
  unfold retiredIfSeen
  split
  · exact pcHistory_genericRetire endTs h
  · exact h

/-- Each row that an input selects keeps the history: FETCH and END retire, and no sample emits an instruction event of its
own. -/
theorem inputStep_pcHistory {inp : Input} (hu : InputStep s inp t) (h : PcHistory p s) : PcHistory p t := by
  cases hu with
  | fetch m => exact pcHistory_congr (pcHistory_retiredIfSeen m.ts h) rfl (by simp) rfl
  | write => exact pcHistory_congr h rfl (by simp) rfl
  | operand1 => exact pcHistory_congr h rfl (by simp) rfl
  | operand2 => exact pcHistory_congr h rfl (by simp) rfl
  | callDummy => exact pcHistory_congr h rfl (by simp) rfl
  | callOperand2 => exact pcHistory_congr h rfl (by simp) rfl
  | memoryRead => exact pcHistory_congr h rfl (by simp) rfl
  | endOfCapture => exact pcHistory_congr (pcHistory_retiredIfSeen _ h) rfl rfl rfl

end

/-- Settles O59: a step that takes no input keeps the state; the others by `inputStep_pcHistory`. -/
theorem stepKeepsPcHistory : Obligations.StepKeepsPcHistory := by
  unfold Obligations.StepKeepsPcHistory
  intro p s t h hstep
  obtain ⟨-, rfl⟩ | ⟨inp, rest, u, -, -, hu, rfl⟩ := Registers.step_next_cases hstep
  · exact h
  · exact pcHistory_congr (inputStep_pcHistory hu h) rfl rfl rfl

/-! ## The new PC by class -/

section

variable (P : Params) (ir op1 op2 : ByteX) (r : Regs)

/-- R117: the low half of the accumulator, plus one modulo 65536. -/
theorem newPc_rts :
    newPc P (.table .rts) ir op1 op2 r =
      map2X (fun high low : Byte => BitVec.ofNat 16 ((high.toNat * 256 + low.toNat + 1) % 65536)) r.nb1 r.nb0 := by
  have hword (high low : Byte) :
      joinBytes high low + 1#16 = BitVec.ofNat 16 ((high.toNat * 256 + low.toNat + 1) % 65536) := by
    rw [joinBytes_eq, ← BitVec.ofNat_add]
    exact BitVec.eq_of_toNat_eq (by simp)
  unfold newPc lo16
  cases r.nb1 <;> cases r.nb0 <;> simp [map2X, hword]

/-- R116, R118: PC + signed operand + 2 when the branch is taken, else PC + LEN. -/
theorem newPc_branch :
    newPc P (.table .branch) ir op1 op2 r =
      if 2 < r.ncyc then map2X (fun (pc : Word) (d : Byte) => BitVec.ofInt 16 ((pc.toNat : Int) + d.toInt + 2)) r.pc op1
      else r.pc.map fun pc => BitVec.ofNat 16 (pc.toNat + lenX P ir) := by
  have hsum (pc : Word) (d : Byte) : (pc.toNat : Int) + (2 : Nat) + d.toInt = pc.toNat + d.toInt + 2 := by omega
  simp only [newPc, isTaken, decide_eq_true_eq, displace_eq, advance_eq, hsum]

end

/-- Settles O47, class by class: PC is a function of two values (`map2X_eq_none`) or of one. -/
theorem pcUnknownExactlyWhenReadUnknown : Obligations.PcUnknownExactlyWhenReadUnknown := by
  unfold Obligations.PcUnknownExactlyWhenReadUnknown
  intro ir op1 op2 r
  refine ⟨?accumulator, ?operands, ?branch, ?rts, ?seq, rfl⟩
  case accumulator =>
    have hhi : hi16 r = none ↔ r.nb1 = none ∨ r.nb2 = none := (map2X_eq_none ..).trans or_comm
    simpa [newPc] using hhi
  case operands =>
    have haddr : addr16 op1 op2 = none ↔ op1 = none ∨ op2 = none := (map2X_eq_none ..).trans or_comm
    simpa [newPc] using haddr
  case branch =>
    rw [newPc_branch]
    split
    · next htaken => simp [map2X_eq_none, htaken]
    · next htaken => simp [htaken]
  case rts =>
    rw [newPc_rts, map2X_eq_none]
    exact or_comm
  case seq => simp [newPc, advance]

/-! ## The display target -/

section

variable {b : Byte} (pc : WordX) (op1 op2 : ByteX)

/-- R121 for mode REL. -/
theorem displayTarget_rel (h : (optable b).mode = .rel) :
    displayTarget defaultParams pc (some b) op1 op2 = displace pc 2 op1 := by
  simp [displayTarget, defaultParams, h]

/-- R121 for mode ZPR. -/
theorem displayTarget_zpr (h : (optable b).mode = .zpr) :
    displayTarget defaultParams pc (some b) op1 op2 = displace pc 3 op2 := by
  simp [displayTarget, defaultParams, h]

/-- R121: no other mode has a target. -/
theorem displayTarget_none (hrel : (optable b).mode ≠ .rel) (hzpr : (optable b).mode ≠ .zpr) :
    displayTarget defaultParams pc (some b) op1 op2 = none := by
  dsimp only [displayTarget, defaultParams]
  split
  · next h => exact absurd h hrel
  · next h => exact absurd h hzpr
  · rfl

end

/-- Settles O48: by mode, the displaced address in exact arithmetic (`displace_eq`), or none. -/
theorem displayTargetByMode : Obligations.DisplayTargetByMode := by
  unfold Obligations.DisplayTargetByMode
  intro pc ir op1 op2
  refine ⟨?rel, ?zpr, ?other⟩
  case rel =>
    rintro b rfl hmode
    rw [displayTarget_rel pc op1 op2 hmode, displace_eq]
    rfl
  case zpr =>
    rintro b rfl hmode
    rw [displayTarget_zpr pc op1 op2 hmode, displace_eq]
    rfl
  case other =>
    intro hmode
    cases ir with
    | none => rfl
    | some b => exact displayTarget_none pc op1 op2 (hmode b rfl).1 (hmode b rfl).2

/-! ## Interrupts -/

/-- Settles O25: a row is retired by `retireRow` (`rowMeaning_eq`), which makes the interrupt test first (R112, R122). -/
theorem threeWritesReclassify : Obligations.ThreeWritesReclassify := by
  unfold Obligations.ThreeWritesReclassify
  intro b o1 o2 s hb hw
  have hint : isInterrupt s.wcnt (some b) = true := by simpa [isInterrupt, hw] using hb
  rw [exec_rowInstr, rowMeaning_eq, retireRow, if_pos hint]
  rfl

/-- Settles O26: RETIRE.INT is the retire of kind and class INT, whose new PC is HI16 (R114, R166). -/
theorem interruptRetire : Obligations.InterruptRetire := by
  unfold Obligations.InterruptRetire
  intro b o1 o2 s
  exact ⟨_, rfl, finishRetire_retiresTo .int .int (some b) o1 o2 s⟩

/-! ## The line of a row -/

section

variable (mn : Text) (o1 o2 : ByteX) (tgt : WordX)

/-! The templates of MODETABLE (R66), filled. -/

theorem fillTemplate_imp : fillTemplate defaultParams mn o1 o2 tgt (modetable .imp).template = mn := by
  simp [fillTemplate, modetable, pieceText]

theorem fillTemplate_rel :
    fillTemplate defaultParams mn o1 o2 tgt (modetable .rel).template = mn ++ ' ' :: hex4 defaultParams tgt := by
  simp [fillTemplate, modetable, pieceText]

theorem fillTemplate_abs :
    fillTemplate defaultParams mn o1 o2 tgt (modetable .abs).template =
      mn ++ txt " " ++ hex2 defaultParams o2 ++ hex2 defaultParams o1 := by
  simp [fillTemplate, modetable, pieceText, txt]

theorem fillTemplate_ind :
    fillTemplate defaultParams mn o1 o2 tgt (modetable .ind).template =
      mn ++ txt " (" ++ hex2 defaultParams o2 ++ hex2 defaultParams o1 ++ txt ")" := by
  simp [fillTemplate, modetable, pieceText, txt]

theorem fillTemplate_iax :
    fillTemplate defaultParams mn o1 o2 tgt (modetable .iax).template =
      mn ++ txt " (" ++ hex2 defaultParams o2 ++ hex2 defaultParams o1 ++ txt ",X)" := by
  simp [fillTemplate, modetable, pieceText, txt]

end

/-- Everything the retire of a row does when its span is no interrupt, from the row's class, its new PC, its display target and
its filled template (R110 to R113, R183). -/
theorem retireRow_retiresTo_line {s : State} {b : Byte} {o1 o2 : ByteX} {c : Class} {pc' tgt : WordX} {body : Text}
    (hw : s.wcnt ≠ 3 ∨ b = 0x00) (hc : (optable b).cls = c)
    (hpc : newPc defaultParams (.table c) (some b) o1 o2 s.toRegs = pc')
    (htgt : displayTarget defaultParams s.pc (some b) o1 o2 = tgt)
    (hbody : fillTemplate defaultParams (optable b).mnemonic o1 o2 tgt (modetable (optable b).mode).template = body) :
    RetiresTo s (retireRow defaultParams b o1 o2 s) (.table c) pc' (insnLine s b o1 o2 tgt body) := by
  subst hc hpc htgt hbody
  exact retireRow_retiresTo b o1 o2 s (isInterrupt_eq_false hw)

/-! ## The control-flow classes -/

/-- Settles O27: the software break is never an interrupt (R112); class BRK, template IMP. -/
theorem breakRetire : Obligations.BreakRetire := by
  unfold Obligations.BreakRetire
  intro s
  exact ⟨_, rfl, retireRow_retiresTo_line (.inr rfl) rfl rfl rfl (fillTemplate_imp ..)⟩

/-- Settles O28: class RTI, template IMP. -/
theorem returnFromInterruptRetire : Obligations.ReturnFromInterruptRetire := by
  unfold Obligations.ReturnFromInterruptRetire
  intro s hw
  exact ⟨_, rfl, retireRow_retiresTo_line (.inl hw) rfl rfl rfl (fillTemplate_imp ..)⟩

/-- Settles O29: class JMPIND for both rows; the templates IND and IAX. -/
theorem indirectJumpsRetire : Obligations.IndirectJumpsRetire := by
  unfold Obligations.IndirectJumpsRetire
  intro o1 o2 s hw
  constructor
  · exact ⟨_, rfl, retireRow_retiresTo_line (.inl hw) rfl rfl rfl (fillTemplate_ind ..)⟩
  · exact ⟨_, rfl, retireRow_retiresTo_line (.inl hw) rfl rfl rfl (fillTemplate_iax ..)⟩

/-- Settles O30: classes JSR and JMPABS read the operand pair (R115); template ABS. -/
theorem callAndJumpRetire : Obligations.CallAndJumpRetire := by
  unfold Obligations.CallAndJumpRetire
  intro o1 o2 s hw
  constructor
  · exact ⟨_, rfl, retireRow_retiresTo_line (.inl hw) rfl (addr16_eq o1 o2) rfl (fillTemplate_abs ..)⟩
  · exact ⟨_, rfl, retireRow_retiresTo_line (.inl hw) rfl (addr16_eq o1 o2) rfl (fillTemplate_abs ..)⟩

/-- Settles O31: class RTS, template IMP. -/
theorem returnFromSubroutineRetire : Obligations.ReturnFromSubroutineRetire := by
  unfold Obligations.ReturnFromSubroutineRetire
  intro s hw
  exact ⟨_, rfl, retireRow_retiresTo_line (.inl hw) rfl (newPc_rts ..) rfl (fillTemplate_imp ..)⟩

/-- Every branch of R169 has the table cell of a relative branch: class BRANCH, mode REL. -/
theorem optable_branchRows : ∀ row ∈ branchRows, optable row.byte = ⟨row.mnemonic, .rel, false, none, .branch⟩ := by
  decide

/-- Every branch carries its first operand and is retired as the row of its opcode byte. -/
theorem exec_branchRows (o1 : ByteX) (s : State) :
    ∀ row ∈ branchRows, exec (row.instr o1) s = .next (retireRow defaultParams row.byte o1 s.op2 s) := by
  simp only [branchRows, List.forall_mem_cons]
  exact ⟨rfl, rfl, rfl, rfl, rfl, rfl, rfl, rfl, rfl, nofun⟩

/-- Settles O32: class BRANCH (R116), mode REL, whose target is shown whether the branch was taken or not (R121). -/
theorem branchesRetire : Obligations.BranchesRetire := by
  unfold Obligations.BranchesRetire
  intro row hrow o1 s hw
  have hcell := optable_branchRows row hrow
  have hmode : (optable row.byte).mode = .rel := by rw [hcell]
  have hlen : lenX defaultParams (some row.byte) = 2 := congrArg (fun m => (modetable m).length) hmode
  refine ⟨_, exec_branchRows o1 s row hrow, retireRow_retiresTo_line (.inl hw) (by rw [hcell]) ?pc ?target ?body⟩
  case pc => rw [newPc_branch, hlen]
  case target => exact displayTarget_rel s.pc o1 s.op2 hmode
  case body =>
    rw [hcell]
    exact fillTemplate_rel ..

end Sys2Proof.Proofs.Retire
end

section
/-! PROOFS. The thirteen SEQ modes (spec/42_sequential_modes.md R130 to R142). What sets one row apart from another is its opcode
byte's mnemonic, mode, class and instruction; `rowColumns` reads these off the grids, and each list of the spec is compared with
them once. The rest is the same for every row of an instruction format (R63), and the modes differ in their template only (R66). -/

namespace Sys2Proof.Proofs.Sequential

open Sys2Proof Sys2Proof.Machine Sys2Proof.Safety

/-! ## A row by its columns -/

/-- What the grids of R73 say of an opcode byte: mnemonic, mode, class, and the instruction on its two operands, of which a row
of a shorter format leaves out what it does not carry. -/
def rowColumns (b : Byte) : Text × Mode × Class × (ByteX → ByteX → Instr) :=
  ((optable b).mnemonic, (optable b).mode, (optable b).cls, rowInstr b)

/-- The columns of an opcode byte, one by one. -/
theorem rowColumns_eq_iff {b : Byte} {mn : Text} {m : Mode} {c : Class} {i : ByteX → ByteX → Instr} :
    rowColumns b = (mn, m, c, i) ↔
      (optable b).mnemonic = mn ∧ (optable b).mode = m ∧ (optable b).cls = c ∧ rowInstr b = i := by
  simp [rowColumns]

/-- R118: a sequential row advances PC by its length, modulo 65536. -/
theorem newPc_seq (P : Params) (ir op1 op2 : ByteX) (r : Regs) :
    newPc P (.table .seq) ir op1 op2 r = r.pc.map fun pc => BitVec.ofNat 16 (pc.toNat + lenX P ir) :=
  advance_eq r.pc (lenX P ir)

section

variable {b : Byte} {mn : Text} {m : Mode} {i : ByteX → ByteX → Instr}

/-- The bytes of a row: its opcode byte and as many operands as its mode's length asks for (R63). -/
theorem encode_row {c : Class} (hrow : rowColumns b = (mn, m, c, i)) (o1 o2 : ByteX) :
    encode (i o1 o2) = some (some b :: [o1, o2].take ((modetable m).length - 1)) := by
  obtain ⟨-, rfl, -, rfl⟩ := rowColumns_eq_iff.1 hrow
  exact Encoding.encode_spanInstr (some b) o1 o2

/-- Everything a sequential row does when its span has not exactly three writes (R112, R118, R183, R201): an operand that the row
does not carry is that of the register (R110). -/
theorem exec_seqRow {o1 o2 : ByteX} {s : State} {tgt : WordX} {body : Text} (hrow : rowColumns b = (mn, m, .seq, i))
    (ho1 : (modetable m).length < 2 → o1 = s.op1) (ho2 : (modetable m).length < 3 → o2 = s.op2)
    (htgt : displayTarget defaultParams s.pc (some b) o1 o2 = tgt)
    (hbody : fillTemplate defaultParams mn o1 o2 tgt (modetable m).template = body) (hw : s.wcnt ≠ 3) :
    ∃ t, exec (i o1 o2) s = .next t ∧
      RetiresTo s t (.table .seq) (s.pc.map fun pc => BitVec.ofNat 16 (pc.toNat + (modetable m).length))
        (insnLine s b o1 o2 tgt body) := by
  obtain ⟨rfl, rfl, hcls, rfl⟩ := rowColumns_eq_iff.1 hrow
  have hop1 : rowOp1 b o1 s = o1 := ite_eq_left_iff.2 fun h => (ho1 (Nat.not_le.1 h)).symm
  have hop2 : rowOp2 b o2 s = o2 := ite_eq_left_iff.2 fun h => (ho2 (Nat.not_le.1 h)).symm
  refine ⟨retireRow defaultParams b o1 o2 s, ?_, ?_⟩
  · rw [exec_rowInstr, rowMeaning_eq, hop1, hop2]
  · exact Retire.retireRow_retiresTo_line (.inl hw) hcls (newPc_seq ..) htgt hbody

end

/-! ## The three formats -/

section

variable {m : Mode} {o1 o2 : ByteX} {s : State} {tgt : WordX} {body : Text}

/-- A mode that is neither REL nor ZPR shows no target (R121). -/
theorem displayTarget_of_mode {b : Byte} (hmode : (optable b).mode = m) (hrel : m ≠ .rel) (hzpr : m ≠ .zpr) :
    displayTarget defaultParams s.pc (some b) o1 o2 = none :=
  Retire.displayTarget_none s.pc o1 o2 (hmode ▸ hrel) (hmode ▸ hzpr)

/-- A sequential row of a one-byte mode: both operands are those of the registers. -/
theorem row1_retires {row : Row1} (hrow : rowColumns row.byte = (row.mnemonic, m, .seq, fun _ _ => row.instr))
    (hlen : (modetable m).length = 1)
    (hbody : fillTemplate defaultParams row.mnemonic s.op1 s.op2 none (modetable m).template = body) :
    encode row.instr = some [some row.byte] ∧
    (s.wcnt ≠ 3 → ∃ t, exec row.instr s = .next t ∧
      RetiresTo s t (.table .seq) (s.pc.map fun pc => BitVec.ofNat 16 (pc.toNat + 1))
        (insnLine s row.byte s.op1 s.op2 none body)) := by
  obtain ⟨-, hmode, -⟩ := rowColumns_eq_iff.1 hrow
  have htgt : displayTarget defaultParams s.pc (some row.byte) s.op1 s.op2 = none :=
    displayTarget_of_mode hmode (by rintro rfl; cases hlen) (by rintro rfl; cases hlen)
  have hbytes := encode_row hrow s.op1 s.op2
  have hexec := exec_seqRow hrow (fun _ => rfl) (fun _ => rfl) htgt hbody
  rw [hlen] at hbytes hexec
  exact ⟨hbytes, hexec⟩

/-- A sequential row of a two-byte mode: the second operand is that of the register. -/
theorem row2_retires {row : Row2} (hrow : rowColumns row.byte = (row.mnemonic, m, .seq, fun o1 _ => row.instr o1))
    (hlen : (modetable m).length = 2) (hrel : m ≠ .rel)
    (hbody : fillTemplate defaultParams row.mnemonic o1 s.op2 none (modetable m).template = body) :
    encode (row.instr o1) = some [some row.byte, o1] ∧
    (s.wcnt ≠ 3 → ∃ t, exec (row.instr o1) s = .next t ∧
      RetiresTo s t (.table .seq) (s.pc.map fun pc => BitVec.ofNat 16 (pc.toNat + 2))
        (insnLine s row.byte o1 s.op2 none body)) := by
  obtain ⟨-, hmode, -⟩ := rowColumns_eq_iff.1 hrow
  have htgt : displayTarget defaultParams s.pc (some row.byte) o1 s.op2 = none :=
    displayTarget_of_mode hmode hrel (by rintro rfl; cases hlen)
  have hbytes := encode_row hrow o1 s.op2
  have hexec := exec_seqRow hrow (by omega) (fun _ => rfl) htgt hbody
  rw [hlen] at hbytes hexec
  exact ⟨hbytes, hexec⟩

/-- A sequential row of a three-byte mode. -/
theorem row3_retires {row : Row3} (hrow : rowColumns row.byte = (row.mnemonic, m, .seq, row.instr))
    (hlen : (modetable m).length = 3)
    (htgt : (optable row.byte).mode = m → displayTarget defaultParams s.pc (some row.byte) o1 o2 = tgt)
    (hbody : fillTemplate defaultParams row.mnemonic o1 o2 tgt (modetable m).template = body) :
    encode (row.instr o1 o2) = some [some row.byte, o1, o2] ∧
    (s.wcnt ≠ 3 → ∃ t, exec (row.instr o1 o2) s = .next t ∧
      RetiresTo s t (.table .seq) (s.pc.map fun pc => BitVec.ofNat 16 (pc.toNat + 3))
        (insnLine s row.byte o1 o2 tgt body)) := by
  obtain ⟨-, hmode, -⟩ := rowColumns_eq_iff.1 hrow
  have hbytes := encode_row hrow o1 o2
  have hexec := exec_seqRow hrow (by omega) (by omega) (htgt hmode) hbody
  rw [hlen] at hbytes hexec
  exact ⟨hbytes, hexec⟩

end

/-! ## The templates

The templates of the sequential modes (R66), filled; IMP and ABS are shared with the control flow (`Retire.fillTemplate_imp`,
`Retire.fillTemplate_abs`). -/

section

variable (mn : Text) (o1 o2 : ByteX) (tgt : WordX)

theorem fillTemplate_acc : fillTemplate defaultParams mn o1 o2 tgt (modetable .acc).template = mn ++ txt " A" := by
  simp [fillTemplate, modetable, pieceText, txt]

theorem fillTemplate_imm :
    fillTemplate defaultParams mn o1 o2 tgt (modetable .imm).template = mn ++ txt " #" ++ hex2 defaultParams o1 := by
  simp [fillTemplate, modetable, pieceText, txt]

theorem fillTemplate_zp :
    fillTemplate defaultParams mn o1 o2 tgt (modetable .zp).template = mn ++ txt " " ++ hex2 defaultParams o1 := by
  simp [fillTemplate, modetable, pieceText, txt]

theorem fillTemplate_zpx :
    fillTemplate defaultParams mn o1 o2 tgt (modetable .zpx).template =
      mn ++ txt " " ++ hex2 defaultParams o1 ++ txt ",X" := by
  simp [fillTemplate, modetable, pieceText, txt]

theorem fillTemplate_zpy :
    fillTemplate defaultParams mn o1 o2 tgt (modetable .zpy).template =
      mn ++ txt " " ++ hex2 defaultParams o1 ++ txt ",Y" := by
  simp [fillTemplate, modetable, pieceText, txt]

theorem fillTemplate_izx :
    fillTemplate defaultParams mn o1 o2 tgt (modetable .izx).template =
      mn ++ txt " (" ++ hex2 defaultParams o1 ++ txt ",X)" := by
  simp [fillTemplate, modetable, pieceText, txt]

theorem fillTemplate_izy :
    fillTemplate defaultParams mn o1 o2 tgt (modetable .izy).template =
      mn ++ txt " (" ++ hex2 defaultParams o1 ++ txt "),Y" := by
  simp [fillTemplate, modetable, pieceText, txt]

theorem fillTemplate_izp :
    fillTemplate defaultParams mn o1 o2 tgt (modetable .izp).template =
      mn ++ txt " (" ++ hex2 defaultParams o1 ++ txt ")" := by
  simp [fillTemplate, modetable, pieceText, txt]

theorem fillTemplate_abx :
    fillTemplate defaultParams mn o1 o2 tgt (modetable .abx).template =
      mn ++ txt " " ++ hex2 defaultParams o2 ++ hex2 defaultParams o1 ++ txt ",X" := by
  simp [fillTemplate, modetable, pieceText, txt]

theorem fillTemplate_aby :
    fillTemplate defaultParams mn o1 o2 tgt (modetable .aby).template =
      mn ++ txt " " ++ hex2 defaultParams o2 ++ hex2 defaultParams o1 ++ txt ",Y" := by
  simp [fillTemplate, modetable, pieceText, txt]

theorem fillTemplate_zpr :
    fillTemplate defaultParams mn o1 o2 tgt (modetable .zpr).template =
      mn ++ txt " " ++ hex2 defaultParams o1 ++ ',' :: hex4 defaultParams tgt := by
  simp [fillTemplate, modetable, pieceText, txt]

end

/-! ## The lists of the spec

Each list of R130 to R142 agrees with the grids: both sides of the equation between its columns are evaluated (`rfl`). -/

theorem columns_impRows : ∀ row ∈ impRows, rowColumns row.byte = (row.mnemonic, .imp, .seq, fun _ _ => row.instr) :=
  List.map_inj_left.1 rfl

theorem columns_accRows : ∀ row ∈ accRows, rowColumns row.byte = (row.mnemonic, .acc, .seq, fun _ _ => row.instr) :=
  List.map_inj_left.1 rfl

theorem columns_immRows : ∀ row ∈ immRows, rowColumns row.byte = (row.mnemonic, .imm, .seq, fun o1 _ => row.instr o1) :=
  List.map_inj_left.1 rfl

theorem columns_zpRows : ∀ row ∈ zpRows, rowColumns row.byte = (row.mnemonic, .zp, .seq, fun o1 _ => row.instr o1) :=
  List.map_inj_left.1 rfl

theorem columns_zpxRows : ∀ row ∈ zpxRows, rowColumns row.byte = (row.mnemonic, .zpx, .seq, fun o1 _ => row.instr o1) :=
  List.map_inj_left.1 rfl

theorem columns_zpyRows : ∀ row ∈ zpyRows, rowColumns row.byte = (row.mnemonic, .zpy, .seq, fun o1 _ => row.instr o1) :=
  List.map_inj_left.1 rfl

theorem columns_izxRows : ∀ row ∈ izxRows, rowColumns row.byte = (row.mnemonic, .izx, .seq, fun o1 _ => row.instr o1) :=
  List.map_inj_left.1 rfl

theorem columns_izyRows : ∀ row ∈ izyRows, rowColumns row.byte = (row.mnemonic, .izy, .seq, fun o1 _ => row.instr o1) :=
  List.map_inj_left.1 rfl

theorem columns_izpRows : ∀ row ∈ izpRows, rowColumns row.byte = (row.mnemonic, .izp, .seq, fun o1 _ => row.instr o1) :=
  List.map_inj_left.1 rfl

theorem columns_absRows : ∀ row ∈ absRows, rowColumns row.byte = (row.mnemonic, .abs, .seq, row.instr) :=
  List.map_inj_left.1 rfl

theorem columns_abxRows : ∀ row ∈ abxRows, rowColumns row.byte = (row.mnemonic, .abx, .seq, row.instr) :=
  List.map_inj_left.1 rfl

theorem columns_abyRows : ∀ row ∈ abyRows, rowColumns row.byte = (row.mnemonic, .aby, .seq, row.instr) :=
  List.map_inj_left.1 rfl

theorem columns_zprRows : ∀ row ∈ zprRows, rowColumns row.byte = (row.mnemonic, .zpr, .seq, row.instr) :=
  List.map_inj_left.1 rfl

/-! ## The obligations -/

/-- Settles O33: the one-byte format with template IMP. -/
theorem impliedRowsRetire : Obligations.ImpliedRowsRetire := by
  unfold Obligations.ImpliedRowsRetire
  intro row hrow s
  exact row1_retires (columns_impRows row hrow) rfl (Retire.fillTemplate_imp ..)

/-- Settles O34: the one-byte format with template ACC. -/
theorem accumulatorRowsRetire : Obligations.AccumulatorRowsRetire := by
  unfold Obligations.AccumulatorRowsRetire
  intro row hrow s
  exact row1_retires (columns_accRows row hrow) rfl (fillTemplate_acc ..)

/-- Settles O35: the two-byte format with template IMM. -/
theorem immediateRowsRetire : Obligations.ImmediateRowsRetire := by
  unfold Obligations.ImmediateRowsRetire
  intro row hrow o1 s
  exact row2_retires (columns_immRows row hrow) rfl nofun (fillTemplate_imm ..)

/-- Settles O36: the two-byte format with template ZP. -/
theorem zeroPageRowsRetire : Obligations.ZeroPageRowsRetire := by
  unfold Obligations.ZeroPageRowsRetire
  intro row hrow o1 s
  exact row2_retires (columns_zpRows row hrow) rfl nofun (fillTemplate_zp ..)

/-- Settles O37: the two-byte format with template ZPX. -/
theorem zeroPageXRowsRetire : Obligations.ZeroPageXRowsRetire := by
  unfold Obligations.ZeroPageXRowsRetire
  intro row hrow o1 s
  exact row2_retires (columns_zpxRows row hrow) rfl nofun (fillTemplate_zpx ..)

/-- Settles O38: the two-byte format with template ZPY. -/
theorem zeroPageYRowsRetire : Obligations.ZeroPageYRowsRetire := by
  unfold Obligations.ZeroPageYRowsRetire
  intro row hrow o1 s
  exact row2_retires (columns_zpyRows row hrow) rfl nofun (fillTemplate_zpy ..)

/-- Settles O39: the two-byte format with template IZX. -/
theorem indexedIndirectRowsRetire : Obligations.IndexedIndirectRowsRetire := by
  unfold Obligations.IndexedIndirectRowsRetire
  intro row hrow o1 s
  exact row2_retires (columns_izxRows row hrow) rfl nofun (fillTemplate_izx ..)

/-- Settles O40: the two-byte format with template IZY. -/
theorem indirectIndexedRowsRetire : Obligations.IndirectIndexedRowsRetire := by
  unfold Obligations.IndirectIndexedRowsRetire
  intro row hrow o1 s
  exact row2_retires (columns_izyRows row hrow) rfl nofun (fillTemplate_izy ..)

/-- Settles O41: the two-byte format with template IZP. -/
theorem zeroPageIndirectRowsRetire : Obligations.ZeroPageIndirectRowsRetire := by
  unfold Obligations.ZeroPageIndirectRowsRetire
  intro row hrow o1 s
  exact row2_retires (columns_izpRows row hrow) rfl nofun (fillTemplate_izp ..)

/-- Settles O42: the three-byte format with template ABS and no target. -/
theorem absoluteRowsRetire : Obligations.AbsoluteRowsRetire := by
  unfold Obligations.AbsoluteRowsRetire
  intro row hrow o1 o2 s
  exact row3_retires (columns_absRows row hrow) rfl (displayTarget_of_mode · nofun nofun) (Retire.fillTemplate_abs ..)

/-- Settles O43: the three-byte format with template ABX and no target. -/
theorem absoluteXRowsRetire : Obligations.AbsoluteXRowsRetire := by
  unfold Obligations.AbsoluteXRowsRetire
  intro row hrow o1 o2 s
  exact row3_retires (columns_abxRows row hrow) rfl (displayTarget_of_mode · nofun nofun) (fillTemplate_abx ..)

/-- Settles O44: the three-byte format with template ABY and no target. -/
theorem absoluteYRowsRetire : Obligations.AbsoluteYRowsRetire := by
  unfold Obligations.AbsoluteYRowsRetire
  intro row hrow o1 o2 s
  exact row3_retires (columns_abyRows row hrow) rfl (displayTarget_of_mode · nofun nofun) (fillTemplate_aby ..)

/-- Settles O45: the three-byte format with template ZPR; PC advances by the length whatever the span's (R168), and the target is
that of the displacement in operand 2 (R121). -/
theorem bitBranchRowsRetire : Obligations.BitBranchRowsRetire := by
  unfold Obligations.BitBranchRowsRetire
  intro row hrow o1 o2 s
  exact row3_retires (columns_zprRows row hrow) rfl (Retire.displayTarget_zpr s.pc o1 o2) (fillTemplate_zpr ..)

end Sys2Proof.Proofs.Sequential
end

section
/-! PROOFS. The output (spec/44_output_format.md): the texts of numbers and phases (R182 to R185), END (R186), and what every
step keeps of the event sequence (R180, R187). A step goes through the cases of `InputStep`; of those, only FETCH and END
retire, so the facts about the instruction events rest on one lemma each about `retiredIfSeen`. -/

namespace Sys2Proof.Proofs.Output

open Sys2Proof Sys2Proof.Machine Sys2Proof.Safety

/-! ## The tiling of the time axis -/

section

variable {s u : State}

/-- The tiling speaks of the instruction events, and of SEEN, DONE and FETCH_TS, only. -/
theorem eventsTile_congr (h : EventsTile s) (he : instrEvents u.events = instrEvents s.events) (hseen : u.seen = s.seen)
    (hdone : u.done = s.done) (hfetch : u.fetchTs = s.fetchTs) : EventsTile u where
  chained := by rw [he]; exact h.chained
  upToFetch := by rw [he, hseen, hdone, hfetch]; exact h.upToFetch
  noneBefore := by rw [he, hseen]; exact h.noneBefore

/-- The retire at the end of a span closes the tiling: the chain now reaches the end of that span. Before the first fetch
there is no span to retire and no event. -/
theorem chained_retiredIfSeen {endTs : Nat} (h : EventsTile s) (hd : s.done = false)
    (hend : s.seen = true → s.fetchTs < endTs) :
    Chained (instrEvents (retiredIfSeen endTs s).events) ∧
      ∀ e, (instrEvents (retiredIfSeen endTs s).events).getLast? = some e → e.stop = endTs := by
  cases hs : s.seen with
  | false =>
    have hnone := h.noneBefore hs
    rw [Registers.retiredIfSeen_of_not_seen hs]
    exact ⟨h.chained, fun e he => by simp [hnone] at he⟩
  | true =>
    obtain ⟨e, hevents, hstart, hstop, -⟩ := genericRetire_events defaultParams endTs s
    have hes : instrEvents (retiredIfSeen endTs s).events = instrEvents s.events ++ [e] := by
      rw [retiredIfSeen, if_pos hs, hevents]
      simp
    rw [hes]
    constructor
    · have hlt : e.start < e.stop := by rw [hstart, hstop]; exact hend hs
      exact chained_append_one h.chained hlt fun l hl => (h.upToFetch hs hd l hl).trans hstart.symm
    · intro l hl
      obtain rfl : e = l := by simpa using hl
      exact hstop

/-- A FETCH comes after the start of the running span (R27 e, R90). -/
theorem fetchTs_lt_of_later {P : Params} {r : Regs} {ts : Nat} (h : Invariants P r) (ho : ∀ t, r.lastTs = some t → t < ts)
    (hs : r.seen = true) : r.fetchTs < ts := by
  obtain ⟨-, t, hlast, hle⟩ := h.spanStarted hs
  exact hle.trans_lt (ho t hlast)

/-- The end of the span that END flushes, after a sample (R186). -/
theorem flushEnd_of_lastTs {r : Regs} {last : Nat} (h : r.lastTs = some last) : flushEnd r = last + 1 := by
  rw [flushEnd, h, Option.getD_some]

/-- END flushes a nonempty span (R27 e, R186). -/
theorem fetchTs_lt_flushEnd {P : Params} {r : Regs} (h : Invariants P r) (hs : r.seen = true) : r.fetchTs < flushEnd r := by
  obtain ⟨-, t, hlast, hle⟩ := h.spanStarted hs
  rw [flushEnd_of_lastTs hlast]
  exact Nat.lt_succ_of_le hle

/-- Each row that an input selects keeps the tiling: FETCH closes a span where it starts the next, END closes the last one, and
no other sample emits an instruction event. -/
theorem inputStep_eventsTile {inp : Input} (hu : InputStep s inp u) (hd : s.done = false)
    (hinv : Invariants defaultParams s.toRegs) (h : EventsTile s) : EventsTile u := by
  cases hu with
  | fetch m _ ho =>
    obtain ⟨hchain, hlast⟩ := chained_retiredIfSeen h hd (fetchTs_lt_of_later hinv ho)
    exact { chained := by simpa using hchain
            upToFetch := fun _ _ e he => hlast e (by simpa using he)
            noneBefore := nofun }
  | write => exact eventsTile_congr h (by simp) rfl rfl rfl
  | operand1 => exact eventsTile_congr h (by simp) rfl rfl rfl
  | operand2 => exact eventsTile_congr h (by simp) rfl rfl rfl
  | callDummy => exact eventsTile_congr h (by simp) rfl rfl rfl
  | callOperand2 => exact eventsTile_congr h (by simp) rfl rfl rfl
  | memoryRead => exact eventsTile_congr h (by simp) rfl rfl rfl
  | endOfCapture =>
    obtain ⟨hchain, -⟩ := chained_retiredIfSeen h hd (fetchTs_lt_flushEnd hinv)
    refine { chained := hchain, upToFetch := nofun, noneBefore := fun hs => ?_ }
    have hs' : s.seen = false := by simpa using hs
    rw [Registers.retiredIfSeen_of_not_seen hs']
    exact h.noneBefore hs'

end

/-- Settles O57: a step that takes no input keeps the state; the others by `inputStep_eventsTile`. -/
theorem stepKeepsEventTiling : Obligations.StepKeepsEventTiling := by
  unfold Obligations.StepKeepsEventTiling
  intro s t hinv h hstep
  obtain ⟨-, rfl⟩ | ⟨inp, rest, u, -, hd, hu, rfl⟩ := Registers.step_next_cases hstep
  · exact h
  · exact eventsTile_congr (inputStep_eventsTile hu hd hinv h) rfl rfl rfl rfl

/-! ## Events are only appended -/

/-- A retire at the end of a span, when there is one, appends its one event (R110). -/
theorem retiredIfSeen_events (endTs : Nat) (s : State) :
    ∃ es, (retiredIfSeen endTs s).events = s.events ++ es ∧ es.length ≤ 1 := by
  unfold retiredIfSeen
  split
  · obtain ⟨e, he, -⟩ := genericRetire_events defaultParams endTs s
    exact ⟨[.instr e], he, Nat.le_refl 1⟩
  · exact ⟨[], (List.append_nil _).symm, Nat.zero_le 1⟩

/-- Each row that an input selects: a sample appends its two events (R98 c), FETCH after the one of the retire (R180). -/
theorem inputStep_events {s u : State} {inp : Input} (hu : InputStep s inp u) :
    ∃ es, u.events = s.events ++ es ∧ es.length ≤ 3 := by
  cases hu with
  | fetch m =>
    obtain ⟨es, hes, hlen⟩ := retiredIfSeen_events m.ts s
    have hevents := loadFetch_events defaultParams (retiredIfSeen m.ts s) m.d.value m.ts
    rw [hes, List.append_assoc] at hevents
    exact ⟨_, hevents, by simpa using hlen⟩
  | write => exact ⟨_, writeSample_events .., Nat.le_succ 2⟩
  | operand1 => exact ⟨_, readOperand1_events .., Nat.le_succ 2⟩
  | operand2 => exact ⟨_, readOperand2_events .., Nat.le_succ 2⟩
  | callDummy => exact ⟨_, readMemory_events .., Nat.le_succ 2⟩
  | callOperand2 => exact ⟨_, readOperand2_events .., Nat.le_succ 2⟩
  | memoryRead => exact ⟨_, readMemory_events .., Nat.le_succ 2⟩
  | endOfCapture =>
    obtain ⟨es, hes, hlen⟩ := retiredIfSeen_events (flushEnd s.toRegs) s
    exact ⟨es, hes, hlen.trans (by decide)⟩

/-- Settles O55: a step that takes no input appends nothing; the others by `inputStep_events`. -/
theorem eventsOnlyAppended : Obligations.EventsOnlyAppended := by
  unfold Obligations.EventsOnlyAppended
  intro s t hstep
  obtain ⟨-, rfl⟩ | ⟨inp, rest, u, -, -, hu, rfl⟩ := Registers.step_next_cases hstep
  · exact ⟨[], (List.append_nil _).symm, Nat.zero_le 3⟩
  · exact (inputStep_events hu :)

/-! ## END -/

/-- END after END is refused (R90). -/
theorem exec_endOfCapture_of_done {s : State} (hd : s.done = true) : exec .endOfCapture s = .refused .afterEnd := by
  rw [exec_endOfCapture, execEndOfCapture_eq, if_pos hd]

/-- The first END retires the span in progress, if there is one, and sets DONE (R186). -/
theorem exec_endOfCapture_of_not_done {s : State} (hd : s.done = false) :
    exec .endOfCapture s = .next { retiredIfSeen (flushEnd s.toRegs) s with done := true } := by
  rw [exec_endOfCapture, execEndOfCapture_eq, hd]
  rfl

/-- The row of a span, executed with the end latched, is the generic retire (R110, R113). -/
theorem exec_retiring (endTs : Nat) (s : State) :
    exec (retiring s.toRegs) { s with endTs := endTs } = .next (genericRetire defaultParams endTs s) := by
  rw [← retireSpan_exec, retireSpan_eq]

/-- Settles O49: END answers the state of `retiredIfSeen`, which is the state itself before the first fetch and else that of
the span's row. -/
theorem endFlushesSpan : Obligations.EndFlushesSpan := by
  unfold Obligations.EndFlushesSpan
  refine fun s => ⟨exec_endOfCapture_of_done, fun hd hs => ?_, fun last hd hs hlast => ?_⟩
  · rw [exec_endOfCapture_of_not_done hd, Registers.retiredIfSeen_of_not_seen hs]
  · obtain ⟨e, hevents, hstart, hstop, -⟩ := genericRetire_events defaultParams (last + 1) s
    refine ⟨_, exec_retiring (last + 1) s, ?_, genericRetire_toRegs .., e, hevents, hstart, hstop⟩
    rw [exec_endOfCapture_of_not_done hd, flushEnd_of_lastTs hlast, retiredIfSeen, if_pos hs]

/-! ## Texts -/

/-- The digit of a value is the character of the rule at that place (R185). -/
theorem hexDigit_eq (n : BitVec 4) : some (hexDigit n) = (txt "0123456789ABCDEF")[n.toNat]? := by
  have hlt : n.toNat < (txt "0123456789ABCDEF").length := n.isLt
  simp [hexDigit, hlt]

/-- The sixteen characters differ, so a digit tells its nibble. -/
theorem hexDigit_injective : Function.Injective hexDigit := by
  intro m n h
  have hnodup : (txt "0123456789ABCDEF").Nodup := by decide
  have hget : (txt "0123456789ABCDEF")[m.toNat]? = (txt "0123456789ABCDEF")[n.toNat]? := by
    rw [← hexDigit_eq, ← hexDigit_eq, h]
  exact BitVec.eq_of_toNat_eq ((List.getElem?_inj m.isLt hnodup).1 hget)

/-- No digit is the character of the placeholders. -/
theorem hexDigit_ne_placeholder (n : BitVec 4) : hexDigit n ≠ '?' := by
  intro h
  have hmem : hexDigit n ∈ txt "0123456789ABCDEF" := List.mem_of_getElem? (hexDigit_eq n).symm
  rw [h] at hmem
  exact absurd hmem (by decide)

/-- A nibble as a number. -/
theorem toNat_nibble {w : Nat} (x : BitVec w) (i : Nat) : (x.extractLsb' i 4).toNat = x.toNat / 2 ^ i % 16 := by
  rw [BitVec.extractLsb'_toNat, Nat.shiftRight_eq_div_pow]

/-- The digit of a nibble (R185). -/
theorem hexDigit_nibble {w : Nat} (x : BitVec w) (i : Nat) :
    some (hexDigit (x.extractLsb' i 4)) = (txt "0123456789ABCDEF")[x.toNat / 2 ^ i % 16]? := by
  rw [hexDigit_eq, toNat_nibble]

/-- Nibbles that print the same are the same number. -/
theorem nibble_eq_of_hexDigit_eq {w : Nat} {x y : BitVec w} {i : Nat}
    (h : hexDigit (x.extractLsb' i 4) = hexDigit (y.extractLsb' i 4)) : x.toNat / 2 ^ i % 16 = y.toNat / 2 ^ i % 16 := by
  rw [← toNat_nibble, ← toNat_nibble, hexDigit_injective h]

/-- The two digits of a byte: its high nibble is the whole quotient. -/
theorem hex2_digits (P : Params) (b : Byte) :
    (hex2 P (some b)).map some =
      [(txt "0123456789ABCDEF")[b.toNat / 16]?, (txt "0123456789ABCDEF")[b.toNat % 16]?] := by
  have hhigh : b.toNat / 16 % 16 = b.toNat / 16 := by have := b.isLt; omega
  simp [hex2, hexDigit_nibble, hhigh]

/-- The four digits of a word. -/
theorem hex4_digits (P : Params) (w : Word) :
    (hex4 P (some w)).map some =
      [(txt "0123456789ABCDEF")[w.toNat / 4096]?, (txt "0123456789ABCDEF")[w.toNat / 256 % 16]?,
       (txt "0123456789ABCDEF")[w.toNat / 16 % 16]?, (txt "0123456789ABCDEF")[w.toNat % 16]?] := by
  have hhigh : w.toNat / 4096 % 16 = w.toNat / 4096 := by have := w.isLt; omega
  simp [hex4, hexDigit_nibble, hhigh]

/-- `hex2` tells bytes apart by their nibbles, and X by its placeholder. -/
theorem hex2_injective : Function.Injective (hex2 defaultParams) := by
  intro b c h
  cases b with
  | none =>
    cases c with
    | none => rfl
    | some c => exact absurd (List.cons.inj h).1.symm (hexDigit_ne_placeholder _)
  | some b =>
    cases c with
    | none => exact absurd (List.cons.inj h).1 (hexDigit_ne_placeholder _)
    | some c =>
      obtain ⟨h1, h0⟩ := by simpa only [hex2, List.cons.injEq, and_true] using h
      have e1 := nibble_eq_of_hexDigit_eq h1
      have e0 := nibble_eq_of_hexDigit_eq h0
      rw [BitVec.eq_of_toNat_eq (x := b) (y := c) (by omega)]

/-- `hex4` tells words apart by their nibbles, and X by its placeholder. -/
theorem hex4_injective : Function.Injective (hex4 defaultParams) := by
  intro v w h
  cases v with
  | none =>
    cases w with
    | none => rfl
    | some w => exact absurd (List.cons.inj h).1.symm (hexDigit_ne_placeholder _)
  | some v =>
    cases w with
    | none => exact absurd (List.cons.inj h).1 (hexDigit_ne_placeholder _)
    | some w =>
      obtain ⟨h3, h2, h1, h0⟩ := by simpa only [hex4, List.cons.injEq, and_true] using h
      have e3 := nibble_eq_of_hexDigit_eq h3
      have e2 := nibble_eq_of_hexDigit_eq h2
      have e1 := nibble_eq_of_hexDigit_eq h1
      have e0 := nibble_eq_of_hexDigit_eq h0
      rw [BitVec.eq_of_toNat_eq (x := v) (y := w) (by omega)]

/-- Settles O10: the digits by `hex2_digits` and `hex4_digits`; the placeholders, the phase texts and the categories are those
of the definitions. -/
theorem hexTextsFaithful : Obligations.HexTextsFaithful := by
  unfold Obligations.HexTextsFaithful
  refine ⟨hex2_digits _, hex4_digits _, fun _ _ h => hex2_injective h, fun _ _ h => hex4_injective h, rfl, rfl, ?_, ?_,
    fun _ => rfl⟩
  · intro p
    cases p <;> simp [phaseName]
  · intro start stop t
    exact ⟨fun _ => rfl, rfl, rfl, rfl, rfl, rfl⟩

end Sys2Proof.Proofs.Output
end
